-- ==== Sys2Proof/Word.lean ====
section
/-! DEFINITION. The words of the GA-830: bytes, 16-bit words, and the bounded numbers the manual counts with. -/

namespace Sys2Proof

/-- A byte of a payload or of the configuration image (R53, R65). -/
abbrev Byte := BitVec 8

/-- A 16-bit word: an order count, an alert mark, a digest, a check, a group mask (R53). -/
abbrev Word := BitVec 16

/-- A station that can bear a number: the member `n` stands for station number `n + 1`, 1 to 30 (00_scope.md, Stations). -/
abbrev Station := Fin 30

/-- A point of the grid, index row × 16 + column (00_scope.md, Points). -/
abbrev PointIndex := Fin 256

/-- One of the 16 groups (R3). -/
abbrev Group := Fin 16

/-- One of the 32 field input lines IN0 to IN31 (R3). -/
abbrev InputLine := Fin 32

/-- The low five bits of an arbitration field: a sender's number, 0 to 31 (R34, R53). -/
abbrev StationField := BitVec 5

end Sys2Proof
end

