-- ==== Sys2Proof/Syntax.lean ====
section
/-! DEFINITION. The commands of the GA-830: one constructor of `Instr` for each row of spec/opcode_table.json, with the
vocabulary their operands use. -/

namespace Sys2Proof

/-- The states of the alarm sequence, and LOST (R1, R2). -/
inductive PointState where
  | quiet | alert | returned | held | ringback | lost
  deriving DecidableEq, Repr

/-- A point record: its five fields (R1). -/
structure PointRecord where
  state : PointState
  firstOut : Bool
  silenced : Bool
  changeCount : Byte
  alertMark : Word
  deriving DecidableEq, Repr

/-- The two hardware-reset sources (R187, R188). -/
inductive ResetSource where
  | supply | pin
  deriving DecidableEq, Repr

/-- A pin as it stands: driven low, driven high, or by nothing (R201, R202). -/
inductive PinLevel where
  | low | high | undriven
  deriving DecidableEq, Repr

/-- What brings a hardware reset: the supply, with the voltage it comes to stand at, or RESETn held low for some microseconds (R187, R188). A
supply below 2.7 V resets; one that comes to 2.7 V or more while the power-on reset is held lets the part drive its pins (R187, R201). -/
inductive ResetCause where
  | supply (millivolts : Nat)
  | pin (lowMicros : Nat)
  deriving DecidableEq, Repr

/-- What ends a source's hold of the reset: the supply, with the millivolts at or above which it has stood and for how many milliseconds, or
RESETn going high (R188). -/
inductive ReleaseCause where
  | supply (millivolts stoodMs : Nat)
  | pin
  deriving DecidableEq, Repr

/-- The four faults a receiver can find in a frame (R39). -/
inductive LineFault where
  | codingBreak | lengthFault | checkFault | delimiterFault
  deriving DecidableEq, Repr

/-- What comes ahead of a frame's payload: the bit times for which the station had seen the line recessive as the start bit came, 0 where the frame
was on the line before the station received (R35), and the number in the arbitration field (R36). -/
structure FrameHeading where
  gap : Nat
  sender : StationField
  deriving DecidableEq, Repr

/-- A faulty frame: the recessive bit times ahead of its start bit, as for a frame (R35), and the first fault found in it (R39). -/
structure FaultyFrame where
  gap : Nat
  fault : LineFault
  deriving DecidableEq, Repr

/-- The reading of a contact or pushbutton at a sample (R116, R131, R201). -/
inductive Contact where
  | opened | closed
  deriving DecidableEq, Repr

/-- The four pushbuttons (R131). -/
inductive Button where
  | ack | silence | reset | test
  deriving DecidableEq, Repr

/-- The activity timers that rest in EXPIRED: T1 DIM, T2 ESCALATE, T3 HORN RUN (R151). -/
inductive ActivityTimer where
  | t1 | t2 | t3
  deriving DecidableEq, Repr

/-- The commands the block takes, one for each row of spec/opcode_table.json. A frame row carries the frame's heading and its payload
bytes: the frame has ended successfully at this station, its check and delimiter were sound. -/
inductive Instr where
  /-- HARDWARE_RESET (R187). -/
  | hardwareReset (cause : ResetCause)
  /-- RESET_RELEASE (R188, R190): a source lets go; the strap pins STN4 to STN0 and RATE1, RATE0 as they stand then, each at the place of its
  number. A strap tied to ground is driven low, one tied to the supply high, and an open one by nothing. -/
  | resetRelease (cause : ReleaseCause) (stn : Vector PinLevel 5) (rate : Vector PinLevel 2)
  /-- IMAGE_READ_COMPLETE (R191): what MDI read at the rising edge of each clock period of the transaction; `true` is high. -/
  | imageReadComplete (mdi : List Bool)
  /-- LOAD_CHECKS_COMPLETE (R192). -/
  | loadChecksComplete
  /-- ATTEMPT_START (R50): the idle gap is complete and no start bit has been seen. -/
  | attemptStart
  /-- LOST_ARBITRATION (R37). -/
  | lostArbitration
  /-- ECHO_MISMATCH (R38), at the release of the fault mark. -/
  | echoMismatch
  /-- ATTEMPT_VOIDED (R42). -/
  | attemptVoided
  /-- OWN_FRAME_SUCCESSFUL_END (R41). -/
  | ownFrameSuccessfulEnd
  /-- FAULTY_FRAME_RECEIVED (R39). -/
  | faultyFrameReceived (faulty : FaultyFrame)
  /-- VOID_SEEN (R40). -/
  | voidSeen
  /-- POINT_FRAME (R16): class 0. -/
  | pointFrame (heading : FrameHeading) (payload : List Byte)
  /-- OPERATOR_FRAME (R19): class 1. -/
  | operatorFrame (heading : FrameHeading) (payload : List Byte)
  /-- JOIN_FRAME (R73): class 2. -/
  | joinFrame (heading : FrameHeading) (payload : List Byte)
  /-- SNAPSHOT_START (R110): class 3, part number 0. -/
  | snapshotStart (heading : FrameHeading) (payload : List Byte)
  /-- SNAPSHOT_DATA (R111): class 3, part number 1 to 11. -/
  | snapshotData (heading : FrameHeading) (payload : List Byte)
  /-- PRESENCE_FRAME (R74): class 4. -/
  | presenceFrame (heading : FrameHeading) (payload : List Byte)
  /-- QUERY_STATUS (R178): class 5, kind 1. -/
  | queryStatus (heading : FrameHeading) (payload : List Byte)
  /-- QUERY_MEMBERS (R178): class 5, kind 2. -/
  | queryMembers (heading : FrameHeading) (payload : List Byte)
  /-- QUERY_REGION (R182): class 5, kind 3. -/
  | queryRegion (heading : FrameHeading) (payload : List Byte)
  /-- QUERY_RESTART (R183): class 5, kind 4. -/
  | queryRestart (heading : FrameHeading) (payload : List Byte)
  /-- REPLY_FRAME (R186): class 6. -/
  | replyFrame (heading : FrameHeading) (payload : List Byte)
  /-- UNASSIGNED_FRAME (R36): class 7. -/
  | unassignedFrame (heading : FrameHeading) (payload : List Byte)
  /-- LISTEN_TIMER_EXPIRY (R92). -/
  | listenTimerExpiry
  /-- SYNC_TIMER_EXPIRY (R96). -/
  | syncTimerExpiry
  /-- HOLD_OFF_EXPIRY (R45). -/
  | holdOffExpiry
  /-- ABSENT_TIMEOUT (R78) of the entry for a station. -/
  | absentTimeout (station : Station)
  /-- REPAIR_TIMER_EXPIRY (R86). -/
  | repairTimerExpiry
  /-- T0_PRESENCE_EXPIRY (R155). -/
  | t0PresenceExpiry
  /-- ACTIVITY_TIMER_EXPIRY (R153) of T1, T2 or T3. -/
  | activityTimerExpiry (timer : ActivityTimer)
  /-- LAMP_TEST_TIMEOUT (R170). -/
  | lampTestTimeout
  /-- FIELD_INPUT_CHANGE (R118): an input line's pin as it stands at a sample (R201). -/
  | fieldInputChange (line : InputLine) (pin : PinLevel)
  /-- INPUT_SETTLING_EXPIRY (R118). -/
  | inputSettlingExpiry (line : InputLine)
  /-- BUTTON_INPUT_CHANGE (R132): a pushbutton's pin as it stands at a sample (R201). -/
  | buttonInputChange (button : Button) (pin : PinLevel)
  /-- BUTTON_SETTLING_EXPIRY (R132). -/
  | buttonSettlingExpiry (button : Button)
  /-- INPUT_SETTLING_ABANDONED (R118): a sample of a SETTLING line is back at the stable level. -/
  | inputSettlingAbandoned (line : InputLine)
  /-- BUTTON_SETTLING_ABANDONED (R132): a sample of a SETTLING button is back at the stable level. -/
  | buttonSettlingAbandoned (button : Button)
  deriving DecidableEq, Repr

end Sys2Proof
end

