-- ==== Sys2Proof/Decode.lean ====
section
/-! DEFINITION. The command a word spells. spec/opcode_table.json gives no row any bits (every row's "fields" is empty and none
has "fixed"), so no word spells a command (assumption 2). -/

namespace Sys2Proof

/-- The table gives no row bits, so no word spells a command. -/
def decodeTableWord (_nbits _w : Nat) : Option Instr := none

end Sys2Proof
end

