-- ==== Sys2Proof/Config.lean ====
section
/-! DEFINITION. What the manual leaves open and the model leaves free: constants without a body, so that nothing can be proved
of their value. -/

namespace Sys2Proof

/-- FREE VALUE (assumption 1). R24 makes one of two flagged points lose its flag, the one whose mark is later, or on equal marks the one
with the higher index. Marks that lie exactly 32768 apart are unequal and neither is later, and the manual does not say which point then loses.
`true` makes the point with the lower index lose. By R25 the choice rests on the two points and their records alone. -/
opaque Config.halfRangeTieLowerLoses (lower higher : PointIndex) (lowerRecord higherRecord : PointRecord) : Bool

end Sys2Proof
end

