-- ==== Sys2Proof/Machine/State.lean ====
section
/-! DEFINITION. The state of a GA-830: every item the manual gives each of its thirteen blocks, as plain data, with the queue of
waiting commands; the reasons a step can stop; the state after reset. Times are in milliseconds, and a running timer holds the time it
still has to run. -/

namespace Sys2Proof.Machine

open Sys2Proof

/-- A command that the machine stops with a fault: none. The manual describes no command after which the station stops without a next
state (HALTED is a state, and hardware reset leaves it), so no constructor is needed. Safe: nothing raises it. -/
inductive Fault where
  deriving DecidableEq, Repr

/-- A command without a meaning. -/
inductive Refusal where
  /-- Raised only by an arm of `exec` whose row has no meaning yet; no arm is left so. Safe. -/
  | notModelled (mnemonic : String)
  deriving DecidableEq, Repr

/-! ## The configuration (R3, R32, R65 to R67, R199) -/

/-- The configured attributes of a point (R3, R66). `owner = none` is owner 0, an unused point (R4). -/
structure PointConfig where
  owner : Option Station
  group : Group
  inputLine : InputLine
  abnormalWhenClosed : Bool
  lockIn : Bool
  ringback : Bool
  debounceMs : Nat
  deriving DecidableEq, Repr

/-- The display window of the station table (R67, R164). -/
structure DisplayWindow where
  originRow : Nat
  originColumn : Nat
  rows : Nat
  columns : Nat
  deriving DecidableEq, Repr

/-- The strap pins as sampled at the release of reset (R190): STN4 to STN0, RATE1 and RATE0. -/
structure Straps where
  stn : BitVec 5
  rate : BitVec 2
  deriving DecidableEq, Repr

/-- The configuration taken on acceptance (R199). Before acceptance and after a refusal it is blank: no point has an owner, no line is
scanned, no window or control set is held (R197; assumption 16). -/
structure Configuration where
  self : Option Station
  rate : BitVec 2
  presenceMs : Nat
  t1ReloadMs : Nat
  t2ReloadMs : Nat
  t3ReloadMs : Nat
  t1Mask : Byte
  t2Mask : Byte
  t3Mask : Byte
  points : Vector PointConfig 256
  controlSet : Word
  display : Option DisplayWindow
  deriving DecidableEq, Repr

/-- The load states (R189). -/
inductive LoadState where
  | held | reading | checking | accepted | refused
  deriving DecidableEq, Repr

/-- The configuration loader (R189): the load state, the straps as last sampled (R190), the bytes read (kept for the checks of R193), the
image check result and the digest. -/
structure Loader where
  state : LoadState
  straps : Straps
  image : List Byte
  checkResult : Word
  digest : Option Word
  deriving DecidableEq, Repr

/-- Which sources hold the reset (R187, R188), and whether the supply stands at or above 2.7 V, below which the part drives no pin (R187,
R201). -/
structure ResetHold where
  bySupply : Bool
  byPin : Bool
  powered : Bool
  deriving DecidableEq, Repr

/-- The sampled input pins as they stand: the strap pins STN4 to STN0 and RATE1, RATE0 and the field inputs IN31 to IN0, each at the place of its
number, and the four pushbuttons (R190, R201, R202). -/
structure InputPins where
  stn : Vector PinLevel 5
  rate : Vector PinLevel 2
  field : Vector PinLevel 32
  ack : PinLevel
  silence : PinLevel
  reset : PinLevel
  test : PinLevel
  deriving DecidableEq, Repr

/-! ## Frames (chapter 3) -/

/-- The frame classes (R36). -/
inductive FrameClass where
  | point | operator | join | snapshot | presence | query | reply | unassigned
  deriving DecidableEq, Repr

/-- The line states of a station (R88). -/
inductive LineState where
  | off | listening | joining | syncing | synced | withdrawn | halted
  deriving DecidableEq, Repr

/-- The operations of an OPERATOR frame (R57). -/
inductive Operation where
  | ack | silence | reset
  deriving DecidableEq, Repr

/-- The join reasons (R58). -/
inductive JoinReason where
  | hardwareReset | softRestart | afterWithdrawal
  deriving DecidableEq, Repr

/-- A rectangle of the grid, bounds inclusive (00_scope.md, Points, rows, columns and windows). -/
structure Window where
  rowLow : Nat
  rowHigh : Nat
  columnLow : Nat
  columnHigh : Nat
  deriving DecidableEq, Repr

/-- A point record as its four wire bytes hold it (R55): the state is a 3-bit code. -/
structure WireRecord where
  code : BitVec 3
  firstOut : Bool
  silenced : Bool
  changeCount : Byte
  alertMark : Word
  deriving DecidableEq, Repr

/-- What a QUERY asks (R61). A target is 0 to 30. -/
inductive Query where
  | status (target : Fin 31)
  | members (target : Fin 31) (secondHalf : Bool)
  | region (target : Fin 31) (window : Window)
  | restart (target : Fin 31)
  deriving DecidableEq, Repr

/-- The kinds of REPLY (R62). -/
inductive ReplyKind where
  | status | members
  deriving DecidableEq, Repr

/-- What a well-formed payload carries (R56 to R62). `count = none` is the count-valid flag clear. -/
inductive FrameContent where
  | point (index : PointIndex) (record : WireRecord) (digest : Word)
  | operator (operation : Operation) (groups : Word) (horizon : Word) (digest : Word)
  | join (digest : Word) (reason : JoinReason)
  | start (window : Window) (total : Nat) (count : Option Word) (digest : Word)
  | data (part : Nat) (last : Bool) (records : List WireRecord)
  | presence (digest : Word) (count : Option Word) (state : LineState)
  | query (q : Query)
  | reply (kind : ReplyKind) (requester : Byte) (body : List Byte)
  deriving DecidableEq, Repr

/-! ## The line controller (chapter 2) -/

/-- The sources of the transmit selector (R49). -/
inductive Source where
  | reportQueue | operatorQueue | sequencer | transferUnit | timerT0 | membershipTable | serviceResponder
  deriving DecidableEq, Repr

/-- The transmit attempt on the line: the source and the frame built at its start, fixed for the whole attempt (R50). -/
structure Attempt where
  source : Source
  content : FrameContent
  deriving DecidableEq, Repr

/-- What the station drives on the line (R31, R39; assumption 8). A sender's own fault mark (R38) ends its drive of the frame, and is over at
ECHO_MISMATCH (`senderLevel`). -/
inductive Drive where
  | recessive | frame | void | faultMark
  deriving DecidableEq, Repr

/-- The line controller (R42 to R46, R184). `awaitsGap` is set from the entry to LISTENING from OFF or WITHDRAWN until the station
has seen an idle gap in full (R35). -/
structure LineController where
  attempt : Option Attempt
  drive : Drive
  failures : Nat
  mismatches : Nat
  holdOff : Option Nat
  awaitsGap : Bool
  withdrawals : Byte
  voidsDriven : Byte
  deriving DecidableEq, Repr

/-! ## The station sequencer (R88, R89) -/

/-- The station sequencer. -/
structure Sequencer where
  state : LineState
  joinReason : JoinReason
  listenTimer : Option Nat
  syncTimer : Option Nat
  joinPending : Bool
  orderCount : Word
  countValid : Bool
  pointHeard : Bool
  deriving DecidableEq, Repr

/-! ## The membership table (chapter 4) -/

/-- The membership states (R68). -/
inductive MemberState where
  | absent | joining | stale | present | mismatch
  deriving DecidableEq, Repr

/-- A membership entry (R68). -/
structure MemberEntry where
  state : MemberState
  ageMs : Nat
  lastDigest : Option Word
  deriving DecidableEq, Repr

/-- The membership table (R68), with the repair query flag and repair timer (R84, R86) and the order-disagreement counter (R83).
The position of the station's own number is never read and never changed (assumption 24). -/
structure MembershipTable where
  entries : Vector MemberEntry 30
  repairFlag : Bool
  repairTimer : Option Nat
  orderDisagreements : Byte
  deriving DecidableEq, Repr

/-! ## The transfer unit (R104 to R112) -/

/-- The snapshot job (R104). -/
inductive SnapshotJob where
  | idle
  | startPending (window : Window)
  | dataPending (window : Window) (cursor : Option PointIndex) (part : Nat) (remaining : Nat)
  deriving DecidableEq, Repr

/-- An OPEN receive context (R109). -/
structure ReceiveContext where
  window : Window
  fullWindow : Bool
  cursor : Option PointIndex
  expectedPart : Nat
  remaining : Nat
  deriving DecidableEq, Repr

/-- The transfer unit: the job, the pending-region slot, one receive context for each sender (`none` is CLOSED), and its counters. -/
structure TransferUnit where
  job : SnapshotJob
  pendingRegion : Option Window
  contexts : Vector (Option ReceiveContext) 30
  regionDrops : Byte
  transferDrops : Byte
  deriving DecidableEq, Repr

/-! ## The input scanner and the report queue (chapter 6) -/

/-- A level of a scanned line (R116). -/
inductive Level where
  | normal | abnormal
  deriving DecidableEq, Repr

/-- A debouncer: raw level, stable level, and the settling timer, `none` in STEADY (R118, R131). -/
structure Debouncer (α : Type) where
  raw : α
  stable : α
  settling : Option Nat
  deriving DecidableEq, Repr

/-- What the scanner holds for an input line (R118, R120). A line that is not scanned keeps the reset values (R115;
assumption 17). -/
structure ScannedLine where
  debouncer : Debouncer Level
  reported : Level
  deriving DecidableEq, Repr

/-- The two events of a report (R122). -/
inductive ReportEvent where
  | trip | clear
  deriving DecidableEq, Repr

/-- An entry of the report queue (R122). -/
structure ReportEntry where
  line : InputLine
  event : ReportEvent
  deriving DecidableEq, Repr

/-- The input scanner and the report queue, head first. -/
structure InputScanner where
  lines : Vector ScannedLine 32
  queue : List ReportEntry
  deriving DecidableEq, Repr

/-! ## The operator interface (chapter 7) -/

/-- A level of a pushbutton (R131). -/
inductive ButtonLevel where
  | released | pressed
  deriving DecidableEq, Repr

/-- An entry of the operator queue (R136). -/
structure OperatorEntry where
  operation : Operation
  groups : Word
  horizon : Word
  deriving DecidableEq, Repr

/-- What the horn sounds (R144, R145). -/
inductive HornPattern where
  | silent | continuous | intermittent
  deriving DecidableEq, Repr

/-- The operator interface: the four debouncers (R131), the operator queue, head first (R139), the press-drop counter (R136), and the
horn's pattern with the phase of its intermittent cycle (R144). -/
structure OperatorInterface where
  ack : Debouncer ButtonLevel
  silence : Debouncer ButtonLevel
  reset : Debouncer ButtonLevel
  test : Debouncer ButtonLevel
  queue : List OperatorEntry
  pressDrops : Byte
  horn : HornPattern
  hornPhaseMs : Nat
  deriving DecidableEq, Repr

/-! ## The activity timers (chapter 8) -/

/-- An activity timer's state, with its count in COUNTING (R152). -/
inductive TimerState where
  | idle
  | counting (ms : Nat)
  | expired
  deriving DecidableEq, Repr

/-- The activity timers and the PRESENCE pending flag that T0 sets (R155). -/
structure ActivityTimers where
  t0 : TimerState
  t1 : TimerState
  t2 : TimerState
  t3 : TimerState
  presencePending : Bool
  deriving DecidableEq, Repr

/-! ## The lamp driver (chapter 9) -/

/-- Matrix brightness (R169). -/
inductive Brightness where
  | full | dim
  deriving DecidableEq, Repr

/-- The lamp-test state, with the lamp-test timer in ACTIVE (R170). -/
inductive LampTest where
  | idle
  | active (ms : Nat)
  | timedOut
  deriving DecidableEq, Repr

/-- The lamp driver: the flash cycle's phase (R167), the matrix row whose scan slot runs, with the columns whose records' patterns were on at
the slot's start and the brightness that stood then (R169, R175), and the lamp-test state (R170). The display window is held in the configuration; the
brightness is T1's effect. -/
structure LampDriver where
  flashPhaseMs : Nat
  scanRow : Fin 8
  slotLit : Vector Bool 8
  slotDrive : Brightness
  test : LampTest
  deriving DecidableEq, Repr

/-! ## The service responder (R176) -/

/-- The reply slot's request. -/
structure ReplyRequest where
  kind : ReplyKind
  requester : StationField
  secondHalf : Bool
  deriving DecidableEq, Repr

/-! ## The machine -/

/-- The whole station. `raised` holds, in the bit order of R65, the activity classes raised at the moment last taken (R149), which the
timers take as one activity (R150; assumption 19). `pending` is the queue of waiting commands, front first. -/
structure State where
  loader : Loader
  hold : ResetHold
  pins : InputPins
  cfg : Configuration
  points : Vector PointRecord 256
  line : LineController
  seq : Sequencer
  members : MembershipTable
  transfer : TransferUnit
  scanner : InputScanner
  panel : OperatorInterface
  timers : ActivityTimers
  lamp : LampDriver
  responder : Option ReplyRequest
  raised : Byte
  pending : List Instr
  deriving DecidableEq, Repr

/-! ## One update for each block -/

/-- Replace `loader`. -/
def State.setLoader (s : State) (x : Loader) : State := { s with loader := x }

/-- Replace `hold`. -/
def State.setHold (s : State) (x : ResetHold) : State := { s with hold := x }

/-- Replace `pins`. -/
def State.setPins (s : State) (x : InputPins) : State := { s with pins := x }

/-- Replace `cfg`. -/
def State.setCfg (s : State) (x : Configuration) : State := { s with cfg := x }

/-- Replace `points`. -/
def State.setPoints (s : State) (x : Vector PointRecord 256) : State := { s with points := x }

/-- Replace `line`. -/
def State.setLine (s : State) (x : LineController) : State := { s with line := x }

/-- Replace `seq`. -/
def State.setSeq (s : State) (x : Sequencer) : State := { s with seq := x }

/-- Replace `members`. -/
def State.setMembers (s : State) (x : MembershipTable) : State := { s with members := x }

/-- Replace `transfer`. -/
def State.setTransfer (s : State) (x : TransferUnit) : State := { s with transfer := x }

/-- Replace `scanner`. -/
def State.setScanner (s : State) (x : InputScanner) : State := { s with scanner := x }

/-- Replace `panel`. -/
def State.setPanel (s : State) (x : OperatorInterface) : State := { s with panel := x }

/-- Replace `timers`. -/
def State.setTimers (s : State) (x : ActivityTimers) : State := { s with timers := x }

/-- Replace `lamp`. -/
def State.setLamp (s : State) (x : LampDriver) : State := { s with lamp := x }

/-- Replace `responder`. -/
def State.setResponder (s : State) (x : Option ReplyRequest) : State := { s with responder := x }

/-- Replace `raised`. -/
def State.setRaised (s : State) (x : Byte) : State := { s with raised := x }

/-- Replace `pending`. -/
def State.setPending (s : State) (x : List Instr) : State := { s with pending := x }

/-! ## Reset values -/

/-- A QUIET record with all fields 0 and clear (R4, R26). -/
def quietRecord : PointRecord := { state := .quiet, firstOut := false, silenced := false, changeCount := 0, alertMark := 0 }

/-- A point of no owner (R4, R197). -/
def unusedPoint : PointConfig :=
  { owner := none, group := 0, inputLine := 0, abnormalWhenClosed := false, lockIn := false, ringback := false, debounceMs := 0 }

/-- No configuration taken (R197, R199). -/
def blankConfiguration : Configuration :=
  { self := none, rate := 0, presenceMs := 0, t1ReloadMs := 0, t2ReloadMs := 0, t3ReloadMs := 0, t1Mask := 0, t2Mask := 0, t3Mask := 0,
    points := Vector.replicate 256 unusedPoint, controlSet := 0, display := none }

/-- A station not heard: ABSENT, age stopped at 0, last digest none (R69). -/
def absentEntry : MemberEntry := { state := .absent, ageMs := 0, lastDigest := none }

/-- A line at hardware reset: levels normal, STEADY (R128). -/
def restingLine : ScannedLine := { debouncer := { raw := .normal, stable := .normal, settling := none }, reported := .normal }

/-- A button at hardware reset: released, STEADY (R134). -/
def restingButton : Debouncer ButtonLevel := { raw := .released, stable := .released, settling := none }

/-- The state right after hardware reset by power-on (R187 and the table of values at hardware reset): the station is OFF, the loader
HELD, the reset held by the supply, which stands at or above 2.7 V, and no input pin is driven (R202). Assumptions 11 to 16 name the values that
the manual does not give. -/
def State.reset : State :=
  { loader := { state := .held, straps := { stn := 0, rate := 0 }, image := [], checkResult := 0xFFFF, digest := none }
    hold := { bySupply := true, byPin := false, powered := true }
    pins := { stn := Vector.replicate 5 .undriven, rate := Vector.replicate 2 .undriven,
              field := Vector.replicate 32 .undriven, ack := .undriven, silence := .undriven, reset := .undriven, test := .undriven }
    cfg := blankConfiguration
    points := Vector.replicate 256 quietRecord
    line := { attempt := none, drive := .recessive, failures := 0, mismatches := 0, holdOff := none, awaitsGap := false, withdrawals := 0,
              voidsDriven := 0 }
    seq := { state := .off, joinReason := .hardwareReset, listenTimer := none, syncTimer := none, joinPending := false, orderCount := 0,
             countValid := false, pointHeard := false }
    members := { entries := Vector.replicate 30 absentEntry, repairFlag := false, repairTimer := none, orderDisagreements := 0 }
    transfer := { job := .idle, pendingRegion := none, contexts := Vector.replicate 30 none, regionDrops := 0, transferDrops := 0 }
    scanner := { lines := Vector.replicate 32 restingLine, queue := [] }
    panel := { ack := restingButton, silence := restingButton, reset := restingButton, test := restingButton, queue := [], pressDrops := 0,
               horn := .silent, hornPhaseMs := 0 }
    timers := { t0 := .idle, t1 := .idle, t2 := .idle, t3 := .idle, presencePending := false }
    lamp := { flashPhaseMs := 0, scanRow := 0, slotLit := Vector.replicate 8 false, slotDrive := .full, test := .idle }
    responder := none
    raised := 0
    pending := [] }

end Sys2Proof.Machine
end

