-- ==== Sys2Proof/Machine/Operands.lean ====
section
/-! DEFINITION. What the input pins read (R201, R202), and the byte layouts of chapter 3: how a payload is read into what it carries, and how it
is built from it. Reading is total; `none` is a malformed payload (R63). -/

namespace Sys2Proof.Machine

open Sys2Proof

/-! ## Input pins (R202) -/

/-- What an input pin with a pull-up reads: high, `true`, unless an outside source drives it low (R202). -/
def pulledUp (pin : PinLevel) : Bool := pin != .low

/-- The straps as the pins read: a strap bit is 1 where its pin reads high, STN4 and RATE1 the most significant (R190, R202). With every strap
open the number is 31 and the rate setting 1,1. -/
def strapsRead (pins : InputPins) : Straps :=
  { stn := BitVec.ofFnLE fun i : Fin 5 => pulledUp pins.stn[i], rate := BitVec.ofFnLE fun i : Fin 2 => pulledUp pins.rate[i] }

/-- What a field input or pushbutton pin reads of its contact: closed where the pin is low, open where it is let high, also by its pull-up
alone (R201, R202). -/
def contactRead (pin : PinLevel) : Contact := if pulledUp pin then .opened else .closed

/-- How a contact wired between the pin and ground leaves the pin: closed it pulls the pin low, open it drives nothing (R201). -/
def contactPin : Contact → PinLevel
  | .closed => .low
  | .opened => .undriven

/-! ## Numbers (R53) -/

/-- Two bytes, most significant first (R53). -/
def joinBytes (high low : Byte) : Word := high ++ low

/-- The high byte of a word. -/
def highByte (w : Word) : Byte := w.extractLsb' 8 8

/-- The low byte of a word. -/
def lowByte (w : Word) : Byte := w.extractLsb' 0 8

/-- A word as it is sent, most significant byte first (R53). -/
def wordBytes (w : Word) : List Byte := [highByte w, lowByte w]

/-- The station that bears a number, if it is 1 to 30 (00_scope.md, Stations). -/
def stationOfNumber (n : Nat) : Option Station :=
  if h : 1 ≤ n ∧ n ≤ 30 then some ⟨n - 1, by omega⟩ else none

/-- A station's number, 1 to 30. -/
def numberOf (n : Station) : Nat := n.val + 1

/-- The station number field of a station's frames (R53). -/
def fieldOf (n : Station) : StationField := BitVec.ofNat 5 (numberOf n)

/-- The station a frame's station number names; none for 0 and 31, which no station bears (R70). -/
def stationOfField (f : StationField) : Option Station := stationOfNumber f.toNat

/-- The class code of the arbitration field (R36, R53). -/
def classCode : FrameClass → BitVec 3
  | .point => 0
  | .operator => 1
  | .join => 2
  | .snapshot => 3
  | .presence => 4
  | .query => 5
  | .reply => 6
  | .unassigned => 7

/-- The arbitration field: class in the three high bits, station number in the five low bits (R34, R53). -/
def arbitrationField (cls : FrameClass) (sender : StationField) : Byte := classCode cls ++ sender

/-! ## The point record on the wire (R55) -/

/-- The state code of a point state (R55). -/
def codeOfState : PointState → BitVec 3
  | .quiet => 0
  | .alert => 1
  | .returned => 2
  | .held => 3
  | .ringback => 4
  | .lost => 5

/-- The state a code names; codes 6 and 7 name none (R55). -/
def stateOfCode (c : BitVec 3) : Option PointState :=
  match c.toNat with
  | 0 => some .quiet
  | 1 => some .alert
  | 2 => some .returned
  | 3 => some .held
  | 4 => some .ringback
  | 5 => some .lost
  | _ => none

/-- A record as it is carried (R55). -/
def wireOfRecord (r : PointRecord) : WireRecord :=
  { code := codeOfState r.state, firstOut := r.firstOut, silenced := r.silenced, changeCount := r.changeCount, alertMark := r.alertMark }

/-- The record a receiver writes: none when the code names LOST or no state (R18, R55). -/
def recordOfWire (w : WireRecord) : Option PointRecord :=
  match stateOfCode w.code with
  | none => none
  | some .lost => none
  | some state =>
    some { state := state, firstOut := w.firstOut, silenced := w.silenced, changeCount := w.changeCount, alertMark := w.alertMark }

/-- Read the four bytes of a record; the three unused bits are not read (R53, R55). -/
def readRecord (b0 b1 b2 b3 : Byte) : WireRecord :=
  { code := b0.extractLsb' 5 3, firstOut := b0.getLsbD 4, silenced := b0.getLsbD 3, changeCount := b1, alertMark := joinBytes b2 b3 }

/-- The first byte of a record: state code, first_out, silenced, three bits 0 (R55). -/
def recordHead (w : WireRecord) : Byte := w.code ++ (BitVec.ofBool w.firstOut ++ (BitVec.ofBool w.silenced ++ (0 : BitVec 3)))

/-- The four bytes of a record (R55). -/
def recordBytes (w : WireRecord) : List Byte := [recordHead w, w.changeCount, highByte w.alertMark, lowByte w.alertMark]

/-- Read a run of four-byte records (R59). -/
def readRecords : List Byte → Option (List WireRecord)
  | [] => some []
  | b0 :: b1 :: b2 :: b3 :: rest => (readRecords rest).map (readRecord b0 b1 b2 b3 :: ·)
  | _ => none

/-! ## Codes of the payload fields -/

/-- The operation an OPERATOR frame's byte names (R57). -/
def operationOfCode (b : Byte) : Option Operation :=
  match b.toNat with
  | 1 => some .ack
  | 2 => some .silence
  | 3 => some .reset
  | _ => none

/-- The code of an operation (R57). -/
def codeOfOperation : Operation → Byte
  | .ack => 1
  | .silence => 2
  | .reset => 3

/-- The reason a JOIN frame's byte names (R58). -/
def reasonOfCode (b : Byte) : Option JoinReason :=
  match b.toNat with
  | 1 => some .hardwareReset
  | 2 => some .softRestart
  | 3 => some .afterWithdrawal
  | _ => none

/-- The code of a join reason (R58). -/
def codeOfReason : JoinReason → Byte
  | .hardwareReset => 1
  | .softRestart => 2
  | .afterWithdrawal => 3

/-- The code of a line state (R60, R88). -/
def codeOfLineState : LineState → BitVec 3
  | .off => 0
  | .listening => 1
  | .joining => 2
  | .syncing => 3
  | .synced => 4
  | .withdrawn => 5
  | .halted => 6

/-- The line state a code names; code 7 names none (R60). -/
def lineStateOfCode (c : BitVec 3) : Option LineState :=
  match c.toNat with
  | 0 => some .off
  | 1 => some .listening
  | 2 => some .joining
  | 3 => some .syncing
  | 4 => some .synced
  | 5 => some .withdrawn
  | 6 => some .halted
  | _ => none

/-- The state byte of PRESENCE frames and STATUS replies (R60): count valid in bit 7, the line state in bits 2 to 0. -/
def stateByte (countValid : Bool) (state : LineState) : Byte :=
  BitVec.ofBool countValid ++ ((0 : BitVec 4) ++ codeOfLineState state)

/-- The membership codes of the MEMBERS reply (R62). -/
def codeOfMember : MemberState → BitVec 4
  | .absent => 0
  | .joining => 1
  | .stale => 2
  | .present => 3
  | .mismatch => 4

/-- The kind code of a REPLY, the code of the query it answers (R62). -/
def codeOfReplyKind : ReplyKind → Byte
  | .status => 1
  | .members => 2

/-! ## Windows (00_scope.md, Points, rows, columns and windows) -/

/-- The window rule: low at most high, all bounds at most 15. -/
def windowValid (w : Window) : Bool :=
  w.rowLow ≤ w.rowHigh && w.rowHigh ≤ 15 && w.columnLow ≤ w.columnHigh && w.columnHigh ≤ 15

/-- The whole grid. -/
def wholeGrid : Window := { rowLow := 0, rowHigh := 15, columnLow := 0, columnHigh := 15 }

/-- The window four bytes give (R59, R61). -/
def readWindow (a b c d : Byte) : Window := { rowLow := a.toNat, rowHigh := b.toNat, columnLow := c.toNat, columnHigh := d.toNat }

/-- The four bytes of a window (R59, R61). -/
def windowBytes (w : Window) : List Byte :=
  [BitVec.ofNat 8 w.rowLow, BitVec.ofNat 8 w.rowHigh, BitVec.ofNat 8 w.columnLow, BitVec.ofNat 8 w.columnHigh]

/-! ## Reading payloads (R56 to R63) -/

/-- A POINT payload (R56). -/
def readPoint : List Byte → Option FrameContent
  | [i, b0, b1, b2, b3, d1, d0] => some (.point i.toFin (readRecord b0 b1 b2 b3) (joinBytes d1 d0))
  | _ => none

/-- An OPERATOR payload (R57). -/
def readOperator : List Byte → Option FrameContent
  | [o, g1, g0, h1, h0, d1, d0] =>
    (operationOfCode o).map fun op => .operator op (joinBytes g1 g0) (joinBytes h1 h0) (joinBytes d1 d0)
  | _ => none

/-- A JOIN payload (R58). -/
def readJoin : List Byte → Option FrameContent
  | [d1, d0, r] => (reasonOfCode r).map fun reason => .join (joinBytes d1 d0) reason
  | _ => none

/-- A SNAPSHOT START payload after its part number (R59, R63). -/
def readStart : List Byte → Option FrameContent
  | [flags, rl, rh, cl, ch, total, c1, c0, d1, d0] =>
    if windowValid (readWindow rl rh cl ch) && total.toNat ≤ 32 && flags.getLsbD 0 == (total.toNat == 0) then
      some (.start (readWindow rl rh cl ch) total.toNat (if flags.getLsbD 1 then some (joinBytes c1 c0) else none) (joinBytes d1 d0))
    else none
  | _ => none

/-- A SNAPSHOT DATA payload after its part number: one to three records (R59, R63). -/
def readData (part : Nat) : List Byte → Option FrameContent
  | flags :: body =>
    if body.length = 4 ∨ body.length = 8 ∨ body.length = 12 then (readRecords body).map (.data part (flags.getLsbD 0) ·) else none
  | [] => none

/-- A SNAPSHOT payload: part 0 is the START, parts 1 to 11 are DATA (R59). -/
def readSnapshot : List Byte → Option FrameContent
  | [] => none
  | p :: rest => if p.toNat = 0 then readStart rest else if p.toNat ≤ 11 then readData p.toNat rest else none

/-- A PRESENCE payload (R60). -/
def readPresence : List Byte → Option FrameContent
  | [d1, d0, c1, c0, st] =>
    (lineStateOfCode (st.extractLsb' 0 3)).map fun state =>
      .presence (joinBytes d1 d0) (if st.getLsbD 7 then some (joinBytes c1 c0) else none) state
  | _ => none

/-- The target of a query, 0 to 30 (R61). -/
def readTarget (b : Byte) : Option (Fin 31) := if h : b.toNat < 31 then some ⟨b.toNat, h⟩ else none

/-- A QUERY payload (R61). -/
def readQuery : List Byte → Option FrameContent
  | k :: t :: rest =>
    match readTarget t with
    | none => none
    | some target =>
      match k.toNat, rest with
      | 1, [] => some (.query (.status target))
      | 2, [half] => if half.toNat ≤ 1 then some (.query (.members target (half.toNat == 1))) else none
      | 3, [rl, rh, cl, ch] => some (.query (.region target (readWindow rl rh cl ch)))
      | 4, [] => some (.query (.restart target))
      | _, _ => none
  | _ => none

/-- A REPLY payload (R62, R63): length 11 or 16, kind 1 or 2. -/
def readReply : List Byte → Option FrameContent
  | k :: r :: body =>
    if body.length = 9 ∨ body.length = 14 then
      match k.toNat with
      | 1 => some (.reply .status r body)
      | 2 => some (.reply .members r body)
      | _ => none
    else none
  | _ => none

/-- What a frame of a class carries; `none` when it is malformed (R63), and for class 7, which carries nothing (R36). -/
def readPayload (cls : FrameClass) (payload : List Byte) : Option FrameContent :=
  match cls with
  | .point => readPoint payload
  | .operator => readOperator payload
  | .join => readJoin payload
  | .snapshot => readSnapshot payload
  | .presence => readPresence payload
  | .query => readQuery payload
  | .reply => readReply payload
  | .unassigned => none

/-! ## Building payloads (R56 to R62) -/

/-- The class of a frame by what it carries (R36). -/
def classOf : FrameContent → FrameClass
  | .point _ _ _ => .point
  | .operator _ _ _ _ => .operator
  | .join _ _ => .join
  | .start _ _ _ _ => .snapshot
  | .data _ _ _ => .snapshot
  | .presence _ _ _ => .presence
  | .query _ => .query
  | .reply _ _ _ => .reply

/-- The flags byte of a START: last in bit 0, count valid in bit 1 (R59). -/
def startFlags (last countValid : Bool) : Byte := (0 : BitVec 6) ++ (BitVec.ofBool countValid ++ BitVec.ofBool last)

/-- The bytes of a count field: 0 when the count is not valid (R59, R60). -/
def countBytes (count : Option Word) : List Byte := wordBytes (count.getD 0)

/-- The payload of a query (R61). -/
def queryBytes : Query → List Byte
  | .status t => [1, BitVec.ofNat 8 t.val]
  | .members t half => [2, BitVec.ofNat 8 t.val, if half then 1 else 0]
  | .region t w => [3, BitVec.ofNat 8 t.val] ++ windowBytes w
  | .restart t => [4, BitVec.ofNat 8 t.val]

/-- The payload that carries a content; every bit no layout names is 0 (R53, R56 to R62). -/
def buildPayload : FrameContent → List Byte
  | .point i r d => [BitVec.ofNat 8 i.val] ++ recordBytes r ++ wordBytes d
  | .operator o g h d => [codeOfOperation o] ++ wordBytes g ++ wordBytes h ++ wordBytes d
  | .join d r => wordBytes d ++ [codeOfReason r]
  | .start w total count d =>
    [0, startFlags (total == 0) count.isSome] ++ windowBytes w ++ [BitVec.ofNat 8 total] ++ countBytes count ++ wordBytes d
  | .data part last rs => [BitVec.ofNat 8 part, startFlags last false] ++ rs.flatMap recordBytes
  | .presence d count st => wordBytes d ++ countBytes count ++ [stateByte count.isSome st]
  | .query q => queryBytes q
  | .reply k r body => [codeOfReplyKind k, r] ++ body

/-- A window whose bounds a byte can hold. -/
def windowFits (w : Window) : Bool := w.rowLow < 256 && w.rowHigh < 256 && w.columnLow < 256 && w.columnHigh < 256

/-- The contents the layouts admit: the values whose payloads are well formed (R56 to R63). -/
def contentFits : FrameContent → Bool
  | .point _ _ _ => true
  | .operator _ _ _ _ => true
  | .join _ _ => true
  | .start w total _ _ => windowValid w && total ≤ 32
  | .data part _ rs => 1 ≤ part && part ≤ 11 && 1 ≤ rs.length && rs.length ≤ 3
  | .presence _ _ _ => true
  | .query (.region _ w) => windowFits w
  | .query _ => true
  | .reply _ _ body => body.length == 9 || body.length == 14

end Sys2Proof.Machine
end

