-- ==== Sys2Proof/Machine/LineCode.lean ====
section
/-! DEFINITION. The bits of a frame on the line: the cyclic check (R54), the span it is computed over and sent in (R34), the inserted
bits (R33), what a receiver reads from the line (R35, R39, R40), and how a sender compares what it sends with the line (R37, R38, R42). A bit of
value 0 is sent dominant and a bit of value 1 recessive (R31); here `true` is 1. -/

namespace Sys2Proof.Machine

open Sys2Proof

/-- The bits of a byte, most significant first (R53). -/
def byteBits (b : Byte) : List Bool :=
  [b.getLsbD 7, b.getLsbD 6, b.getLsbD 5, b.getLsbD 4, b.getLsbD 3, b.getLsbD 2, b.getLsbD 1, b.getLsbD 0]

/-- The bits of a 16-bit word, most significant first (R53). -/
def wordBits (w : Word) : List Bool := byteBits (highByte w) ++ byteBits (lowByte w)

/-- The check register after more bits: each is compared with the register's most significant bit, the register is shifted, and 1021h is
combined in where they differ (R54). -/
def checkFrom (register : Word) : List Bool → Word
  | [] => register
  | bit :: rest =>
    if register.msb == bit then checkFrom (register <<< 1) rest else checkFrom ((register <<< 1) ^^^ 0x1021) rest

/-- The check over bits in the order they are sent, from starting value FFFFh (R54). -/
def checkOfBits (bits : List Bool) : Word := checkFrom 0xFFFF bits

/-- The check over bytes, each most significant bit first (R54). -/
def checkOfBytes (bytes : List Byte) : Word := checkOfBits (bytes.flatMap byteBits)

/-- The length field's five bits (R34). -/
def lengthBits (n : Nat) : List Bool := [n.testBit 4, n.testBit 3, n.testBit 2, n.testBit 1, n.testBit 0]

/-- The bits the check covers: arbitration field, length and payload (R54). -/
def checkedBits (arbitration : Byte) (payload : List Byte) : List Bool :=
  byteBits arbitration ++ lengthBits payload.length ++ payload.flatMap byteBits

/-- The bits from the start bit through the last bit of the check, before bits are inserted (R34). -/
def spanBits (arbitration : Byte) (payload : List Byte) : List Bool :=
  false :: (checkedBits arbitration payload ++ wordBits (checkOfBits (checkedBits arbitration payload)))

/-- Bit insertion: after every run of four equal bits, one bit of the opposite level, which begins the next run (R33). `run` counts the equal
bits, all `level`, that stand sent. -/
def insertBitsFrom (level : Bool) (run : Nat) : List Bool → List Bool
  | [] => []
  | b :: rest =>
    if b == level then
      if run = 3 then b :: (!b) :: insertBitsFrom (!b) 1 rest else b :: insertBitsFrom b (run + 1) rest
    else b :: insertBitsFrom b 1 rest

/-- The span as it is sent (R33). The line is recessive before the start bit, and the insertion begins with the start bit
(assumption 10). -/
def insertBits (bits : List Bool) : List Bool := insertBitsFrom true 0 bits

/-- Removal of inserted bits at a receiver; `none` at the fifth equal bit, a coding break (R33, R39). -/
def removeBitsFrom (level : Bool) (run : Nat) : List Bool → Option (List Bool)
  | [] => some []
  | b :: rest =>
    if run = 4 then
      if b == level then none else removeBitsFrom b 1 rest
    else if b == level then (removeBitsFrom b (run + 1) rest).map (b :: ·)
    else (removeBitsFrom b 1 rest).map (b :: ·)

/-- The bits a receiver reads from a span it has seen, or a coding break (R33). -/
def removeBits (bits : List Bool) : Option (List Bool) := removeBitsFrom true 0 bits

/-- The number a list of bits spells, most significant first. -/
def bitsValue (bits : List Bool) : Nat := bits.foldl (fun n b => 2 * n + b.toNat) 0

/-- A receiver's judgement of a span (R39): coding break, length field 17 to 31, or a check that differs. `none` is a sound span. -/
def judgeSpan (seen : List Bool) : Option LineFault :=
  match removeBits seen with
  | none => some .codingBreak
  | some bits =>
    if 16 < bitsValue ((bits.drop 9).take 5) then some .lengthFault
    else if bits.length = 30 + 8 * bitsValue ((bits.drop 9).take 5)
        ∧ bitsValue (bits.drop (bits.length - 16)) = (checkOfBits ((bits.drop 1).take (bits.length - 17))).toNat then none
    else some .checkFault

/-- The bits of a frame as sent: the span with its inserted bits, the delimiter, the void slot and the end bits, all recessive (R34). -/
def frameBits (cls : FrameClass) (sender : StationField) (payload : List Byte) : List Bool :=
  insertBits (spanBits (arbitrationField cls sender) payload) ++ List.replicate 10 true

/-! ## What a receiver reads on LRX (R34, R39, R40) -/

/-- The line at a bit time, recessive when no station drives it dominant (R31). -/
def lineLevel (own others : Bool) : Bool := own && others

/-- A stretch of a span read so far: too few bits, a coding break, or the data bits asked for, with the run that stands and what follows. -/
inductive SpanReading where
  | incomplete
  | codingBreak
  | read (bits : List Bool) (level : Bool) (run : Nat) (rest : List Bool)
  deriving DecidableEq, Repr

/-- One data bit ahead of a reading. -/
def pushBit (b : Bool) : SpanReading → SpanReading
  | .incomplete => .incomplete
  | .codingBreak => .codingBreak
  | .read bits level run rest => .read (b :: bits) level run rest

/-- Read `need` data bits, the inserted bits taken out; after a run of four, a fifth equal bit is a coding break (R33). -/
def readSpan : Bool → Nat → Nat → List Bool → SpanReading
  | level, run, 0, rest => .read [] level run rest
  | _, _, _ + 1, [] => .incomplete
  | level, run, need + 1, b :: rest =>
    if run = 4 then if b == level then .codingBreak else readSpan b 1 (need + 1) rest
    else pushBit b (readSpan b (if b == level then run + 1 else 1) need rest)

/-- The bytes that bits spell, most significant bit first (R53). -/
def bytesOfBits : List Bool → List Byte
  | b7 :: b6 :: b5 :: b4 :: b3 :: b2 :: b1 :: b0 :: rest =>
    BitVec.ofNat 8 (bitsValue [b7, b6, b5, b4, b3, b2, b1, b0]) :: bytesOfBits rest
  | _ => []

/-- The class a code of the arbitration field names (R36). -/
def classOfCode (c : BitVec 3) : FrameClass :=
  match c.toNat with
  | 0 => .point
  | 1 => .operator
  | 2 => .join
  | 3 => .snapshot
  | 4 => .presence
  | 5 => .query
  | 6 => .reply
  | _ => .unassigned

/-- The row of a SNAPSHOT frame, by its part number (R59). -/
def snapshotCommand (heading : FrameHeading) (payload : List Byte) : Instr :=
  match payload with
  | [] => .snapshotStart heading payload
  | part :: _ => if part = 0 then .snapshotStart heading payload else .snapshotData heading payload

/-- The row of a QUERY frame, by its kind (R61). -/
def queryCommand (heading : FrameHeading) (payload : List Byte) : Instr :=
  match payload with
  | [] => .queryStatus heading payload
  | kind :: _ =>
    if kind = 2 then .queryMembers heading payload
    else if kind = 3 then .queryRegion heading payload
    else if kind = 4 then .queryRestart heading payload
    else .queryStatus heading payload

/-- The command that the successful end of a frame is (R36, R40). -/
def frameCommand (cls : FrameClass) (heading : FrameHeading) (payload : List Byte) : Instr :=
  match cls with
  | .point => .pointFrame heading payload
  | .operator => .operatorFrame heading payload
  | .join => .joinFrame heading payload
  | .snapshot => snapshotCommand heading payload
  | .presence => .presenceFrame heading payload
  | .query => queryCommand heading payload
  | .reply => .replyFrame heading payload
  | .unassigned => .unassignedFrame heading payload

/-- The void slot: dominant in either bit voids the frame (R40). -/
def readVoidSlot (frame : Instr) : List Bool → Option Instr
  | v1 :: v2 :: _ => if v1 && v2 then some frame else some .voidSeen
  | _ => none

/-- The delimiter, dominant at a delimiter fault (R39). -/
def readDelimiter (gap : Nat) (frame : Instr) : List Bool → Option Instr
  | [] => none
  | d :: rest => if d then readVoidSlot frame rest else some (.faultyFrameReceived ⟨gap, .delimiterFault⟩)

/-- The end of a span: an inserted bit follows a run of four that ends with the check (R33, assumption 10). -/
def readSpanEnd (gap : Nat) (frame : Instr) (level : Bool) (run : Nat) (rest : List Bool) : Option Instr :=
  if run = 4 then
    match rest with
    | [] => none
    | b :: after => if b == level then some (.faultyFrameReceived ⟨gap, .codingBreak⟩) else readDelimiter gap frame after
  else readDelimiter gap frame rest

/-- A frame's payload and check, behind its header of start bit, arbitration field and length (R34, R39, R54). -/
def readBody (gap : Nat) (header : List Bool) (level : Bool) (run : Nat) (rest : List Bool) : Option Instr :=
  match readSpan level run (8 * bitsValue (header.drop 9) + 16) rest with
  | .incomplete => none
  | .codingBreak => some (.faultyFrameReceived ⟨gap, .codingBreak⟩)
  | .read body level run rest =>
    if bitsValue (body.drop (8 * bitsValue (header.drop 9)))
        = (checkOfBits (header.drop 1 ++ body.take (8 * bitsValue (header.drop 9)))).toNat then
      readSpanEnd gap
        (frameCommand (classOfCode (BitVec.ofNat 3 (bitsValue ((header.drop 1).take 3))))
          ⟨gap, BitVec.ofNat 5 (bitsValue ((header.drop 4).take 5))⟩
          (bytesOfBits (body.take (8 * bitsValue (header.drop 9)))))
        level run rest
    else some (.faultyFrameReceived ⟨gap, .checkFault⟩)

/-- What the readings of LRX, one for each bit time from a frame's start bit on, come to at its receiver: the command for the first fault, the void
seen or the successful end, or none while the frame goes on (R34, R39, R40). -/
def readFrame (gap : Nat) (lrx : List Bool) : Option Instr :=
  match lrx with
  | false :: _ =>
    match readSpan true 0 14 lrx with
    | .incomplete => none
    | .codingBreak => some (.faultyFrameReceived ⟨gap, .codingBreak⟩)
    | .read header level run rest =>
      if 16 < bitsValue (header.drop 9) then some (.faultyFrameReceived ⟨gap, .lengthFault⟩) else readBody gap header level run rest
  | _ => none

/-- The idle gap, 11 consecutive recessive bit times (R35). -/
def idleGapBits : Nat := 11

/-- The first start bit that a station takes, with the recessive bit times seen ahead of it and what is read from it on. One that `awaits` an
idle gap passes over every dominant bit until it has seen the gap in full (R35). `run` counts the recessive bit times that stand seen. DESIGN CHOICE
(assumption 30): at a station that awaits none, the first dominant level behind a frame's void slot is a start bit, also where it falls in the end
bits or short of 11 recessive bit times; R38 says no more of it than that the frame it follows is untouched. -/
def firstStart (awaits : Bool) (run : Nat) : List Bool → Option (Nat × List Bool)
  | [] => none
  | b :: rest =>
    if b then firstStart awaits (run + 1) rest
    else if awaits && decide (run < idleGapBits) then firstStart awaits 0 rest
    else some (run, b :: rest)

/-- What the readings of LRX come to at a receiver, one for each bit time since its last frame or since it began to receive (R34, R35, R39, R40).
DESIGN CHOICE (assumption 32): its last frame reaches to the end of the void slot, voided or not; where the frame was fault-marked, by this station
or another, the readings are those of `readBehindMark`. -/
def readLine (awaits : Bool) (lrx : List Bool) : Option Instr :=
  match firstStart awaits 0 lrx with
  | none => none
  | some (gap, frame) => readFrame gap frame

/-- What the readings of LRX come to behind a fault mark that the station drove or saw, one for each bit time from the fault on. DESIGN CHOICE
(assumption 32): the line's dominant levels that follow the fault, the marks of other stations among them, belong to the frame at fault and count
as no other; the readings of the next begin with the first recessive one, the release from which its idle gap is counted (R35, R39). -/
def readBehindMark (lrx : List Bool) : Option Instr := readLine false (lrx.dropWhile (!·))

/-! ## What a sender finds on LRX (R37, R38, R42) -/

/-- How an attempt ends (R42), with the bit, counted from the start bit, at which it is lost or mismatched. -/
inductive AttemptEnd where
  | lostArbitration (bit : Nat)
  | echoMismatch (bit : Nat)
  | voided
  | successful
  deriving DecidableEq, Repr

/-- The bits a sender compares with the line: from the start bit through the delimiter, inserted bits included (R38). -/
def comparedBits (arbitration : Byte) (payload : List Byte) : List Bool := insertBits (spanBits arbitration payload) ++ [true]

/-- The bits of the start bit and the arbitration field as sent, with the bits inserted among them (R37). DESIGN CHOICE (assumption 28): an inserted
bit between two of the field's bits counts as one of them, so sent recessive and seen dominant it is lost arbitration; one right behind the eighth
lies after the field, and is an echo mismatch. R38 names inserted bits only after the field. -/
def arbitrationLength (arbitration : Byte) (payload : List Byte) : Nat := (insertBits ((spanBits arbitration payload).take 8)).length + 1

/-- The first bit sent that differs from the line: recessive sent and dominant seen within the arbitration field is lost arbitration, any other
difference an echo mismatch (R37, R38). `k` is the bit's place, `fieldEnd` the end of the field. -/
def compareBits (fieldEnd : Nat) : Nat → List Bool → List Bool → Option AttemptEnd
  | k, sent :: restSent, seen :: restSeen =>
    if sent == seen then compareBits fieldEnd (k + 1) restSent restSeen
    else if sent && decide (k < fieldEnd) then some (.lostArbitration k)
    else some (.echoMismatch k)
  | _, _, _ => none

/-- The end of an attempt by what its sender sees on the line; bits not seen count as sent. The void slot is the two bits behind the delimiter,
and the end bits are not compared (R38, R40, R42). -/
def attemptEnd (arbitration : Byte) (payload : List Byte) (seen : List Bool) : AttemptEnd :=
  match compareBits (arbitrationLength arbitration payload) 0 (comparedBits arbitration payload) seen with
  | some found => found
  | none => if ((seen.drop (comparedBits arbitration payload).length).take 2).all id then .successful else .voided

/-- What a sender drives at a bit time: its frame, and nothing after lost arbitration (R37); after an echo mismatch a fault mark, dominant for
the 8 bit times from the next bit on, and then the release (R38, R39). -/
def senderLevel (sent : List Bool) (found : AttemptEnd) (k : Nat) : Bool :=
  match found with
  | .lostArbitration bit => if k ≤ bit then sent.getD k true else true
  | .echoMismatch bit => if k ≤ bit then sent.getD k true else decide (bit + 8 < k)
  | .voided => sent.getD k true
  | .successful => sent.getD k true

/-- The command that the end of an attempt is (R42). -/
def attemptEndCommand : AttemptEnd → Instr
  | .lostArbitration _ => .lostArbitration
  | .echoMismatch _ => .echoMismatch
  | .voided => .attemptVoided
  | .successful => .ownFrameSuccessfulEnd

/-- Bit time in microseconds by the rate straps; setting 1,1 is not valid (R32). -/
def bitTimeMicros (rate : BitVec 2) : Option Nat :=
  match rate.toNat with
  | 0 => some 16
  | 1 => some 8
  | 2 => some 4
  | _ => none

end Sys2Proof.Machine
end

