-- ==== Sys2Proof/Machine/Image.lean ====
section
/-! DEFINITION. The configuration image (R65 to R67), the ten checks of the loader (R193 to R196) and the configuration an accepted image
gives (R199). -/

namespace Sys2Proof.Machine

open Sys2Proof

/-- The image's length in bytes (R65). -/
abbrev imageLength : Nat := 1222

/-- The length of the body, which the body check covers (R65). -/
abbrev bodyLength : Nat := 1220

/-- The clock periods in which the read command and the address go out on MDO (R191). -/
abbrev addressPeriods : Nat := 24

/-- The clock periods of the whole read transaction: 3 bytes sent and 1222 received (R191). -/
abbrev readPeriods : Nat := 9800

/-- The 1222 bytes clocked in behind the command and the address, most significant bit first, from the readings of MDI at the rising edges of
MCK. The loader always clocks them all, and MDI that nothing drives reads high (R191, R202; assumption 23). -/
def clockedIn (mdi : List Bool) : List Byte :=
  bytesOfBits ((mdi.drop addressPeriods ++ List.replicate (8 * imageLength) (pulledUp .undriven)).take (8 * imageLength))

/-- A byte of the image as read. -/
def imageByte (img : List Byte) (i : Nat) : Byte := img.getD i 0xFF

/-- A 16-bit field of the image, most significant byte first (R53). -/
def imageWord (img : List Byte) (i : Nat) : Word := joinBytes (imageByte img i) (imageByte img (i + 1))

/-- The check over the body, bytes 0 to 1219 (R54, R65). -/
def imageCheck (img : List Byte) : Word := checkOfBytes (img.take bodyLength)

/-- All point indices in index order, which is row-major order (00_scope.md). -/
def allPoints : List PointIndex := List.finRange 256

/-- All stations that can bear a number, in order of number. -/
def allStations : List Station := List.finRange 30

/-- All input lines in ascending order. -/
def allLines : List InputLine := List.finRange 32

/-- The table whose entry `i` is `f i`. -/
def tabulate {α : Type} {n : Nat} (f : Fin n → α) : Vector α n := ⟨⟨List.ofFn f⟩, by simp⟩

/-- The table whose entry `i` is `f` of the two tables' entries `i`. -/
def zipTables {α β γ : Type} {n : Nat} (f : α → β → γ) (a : Vector α n) (b : Vector β n) : Vector γ n :=
  ⟨⟨List.zipWith f a.toList b.toList⟩, by simp⟩

/-- The table whose entry `i` is `f` of the table's entry `i`. -/
def mapTable {α β : Type} {n : Nat} (f : α → β) (a : Vector α n) : Vector β n := ⟨⟨a.toList.map f⟩, by simp⟩

/-- The first `count` runs of `size` bytes. -/
def chunks (size : Nat) : Nat → List Byte → List (List Byte)
  | 0, _ => []
  | count + 1, bytes => bytes.take size :: chunks size count (bytes.drop size)

/-- There are as many runs as asked for. -/
theorem length_chunks (size count : Nat) (bytes : List Byte) : (chunks size count bytes).length = count := by
  induction count generalizing bytes with
  | zero => rfl
  | succ n ih => simp [chunks, ih]

/-- The point table's entries: point i at bytes 16 + 4i to 19 + 4i (R65). -/
def pointEntries (img : List Byte) : Vector (List Byte) 256 := ⟨⟨chunks 4 256 (img.drop 16)⟩, length_chunks _ _ _⟩

/-- The station table's entries: station n at bytes 1040 + 6(n − 1) to 1045 + 6(n − 1) (R65). -/
def stationEntries (img : List Byte) : Vector (List Byte) 30 := ⟨⟨chunks 6 30 (img.drop 1040)⟩, length_chunks _ _ _⟩

/-- A byte of an entry. -/
def entryByte (entry : List Byte) (i : Nat) : Byte := entry.getD i 0xFF

/-- A point entry's owner byte (R66). -/
def ownerByte (entry : List Byte) : Nat := (entryByte entry 0).toNat

/-- A point entry's input line field (R66). -/
def lineField (entry : List Byte) : BitVec 5 := (entryByte entry 2).extractLsb' 0 5

/-- The entries of the used points: those whose owner byte is 1 to 30 (R194). -/
def usedEntries (img : List Byte) : List (List Byte) :=
  (pointEntries img).toList.filter fun e => (stationOfNumber (ownerByte e)).isSome

/-! ## The checks (R193), in order -/

/-- Check 1: the marker. -/
def markerCheck (img : List Byte) : Bool := imageByte img 0 == 0x47 && imageByte img 1 == 0x38

/-- Check 2: the format version. -/
def versionCheck (img : List Byte) : Bool := imageByte img 2 == 1

/-- Check 3: the body check, against the image check result. -/
def bodyCheck (result : Word) (img : List Byte) : Bool := result == imageWord img 1220

/-- Check 4: the presence interval (R195). -/
def presenceCheck (img : List Byte) : Bool := 2 ≤ (imageByte img 3).toNat && (imageByte img 3).toNat ≤ 40

/-- Check 5: every owner byte is 0 to 30 (R194). -/
def ownersCheck (img : List Byte) : Bool := (pointEntries img).toList.all fun e => ownerByte e ≤ 30

/-- Check 6: no two used points share an owner and an input line; the polarity bit is not compared (R194). -/
def ownerLinesCheck (img : List Byte) : Bool := decide (((usedEntries img).map fun e => (ownerByte e, lineField e)).Nodup)

/-- Check 7: the debounce byte of every used point is 0 to 25 (R194). -/
def debounceCheck (img : List Byte) : Bool := (usedEntries img).all fun e => (entryByte e 3).toNat ≤ 25

/-- Check 8: every station entry has an origin within the grid and 1 to 8 rows and columns (R195). -/
def stationTableCheck (img : List Byte) : Bool :=
  (stationEntries img).toList.all fun e =>
    (entryByte e 2).toNat ≤ 15 && (entryByte e 3).toNat ≤ 15
      && 1 ≤ (entryByte e 4).toNat && (entryByte e 4).toNat ≤ 8 && 1 ≤ (entryByte e 5).toNat && (entryByte e 5).toNat ≤ 8

/-- Check 9: each timer reload is 0 to 3600 (R195). -/
def reloadsCheck (img : List Byte) : Bool :=
  (imageWord img 4).toNat ≤ 3600 && (imageWord img 6).toNat ≤ 3600 && (imageWord img 8).toNat ≤ 3600

/-- Check 10: the station number is 1 to 30 and the rate setting is not 1,1 (R196). -/
def strapsCheck (straps : Straps) : Bool := (stationOfField straps.stn).isSome && straps.rate != 3

/-- The number of the first check that fails, if any: the checks after it are not made (R192, R193). -/
def firstFailedCheck (result : Word) (img : List Byte) (straps : Straps) : Option Nat :=
  if !markerCheck img then some 1
  else if !versionCheck img then some 2
  else if !bodyCheck result img then some 3
  else if !presenceCheck img then some 4
  else if !ownersCheck img then some 5
  else if !ownerLinesCheck img then some 6
  else if !debounceCheck img then some 7
  else if !stationTableCheck img then some 8
  else if !reloadsCheck img then some 9
  else if !strapsCheck straps then some 10
  else none

/-! ## The configuration (R65 to R67) -/

/-- A point's attributes (R66). For owner 0, bytes 1 to 3 are not read. -/
def pointConfigOf (entry : List Byte) : PointConfig :=
  match stationOfNumber (ownerByte entry) with
  | none => unusedPoint
  | some owner =>
    { owner := some owner
      group := ((entryByte entry 1).extractLsb' 0 4).toFin
      inputLine := (lineField entry).toFin
      abnormalWhenClosed := (entryByte entry 2).getLsbD 7
      lockIn := (entryByte entry 1).getLsbD 4
      ringback := (entryByte entry 1).getLsbD 5
      debounceMs := 10 * (entryByte entry 3).toNat }

/-- The control set of a station's entry (R67). -/
def controlSetOf (entry : List Byte) : Word := joinBytes (entryByte entry 0) (entryByte entry 1)

/-- The display window of a station's entry (R67). -/
def displayOf (entry : List Byte) : DisplayWindow :=
  { originRow := (entryByte entry 2).toNat
    originColumn := (entryByte entry 3).toNat
    rows := (entryByte entry 4).toNat
    columns := (entryByte entry 5).toNat }

/-- The configuration of the station strapped so (R190, R199). P is in steps of 50 ms, the reloads in seconds (R65). -/
def configurationOf (img : List Byte) (straps : Straps) : Configuration :=
  { self := stationOfField straps.stn
    rate := straps.rate
    presenceMs := 50 * (imageByte img 3).toNat
    t1ReloadMs := 1000 * (imageWord img 4).toNat
    t2ReloadMs := 1000 * (imageWord img 6).toNat
    t3ReloadMs := 1000 * (imageWord img 8).toNat
    t1Mask := imageByte img 10
    t2Mask := imageByte img 11
    t3Mask := imageByte img 12
    points := mapTable pointConfigOf (pointEntries img)
    controlSet :=
      match stationOfField straps.stn with
      | some n => controlSetOf (stationEntries img)[n]
      | none => 0
    display := (stationOfField straps.stn).map fun n => displayOf (stationEntries img)[n] }

end Sys2Proof.Machine
end

