-- ==== Sys2Proof/Machine/AlarmSequence.lean ====
section
/-! DEFINITION. The point table: the alarm sequence (R6 to R13), the acknowledge horizon (R14), ownership, LOST marking (R21), first-out and
the tie rule (R7, R24, R25). -/

namespace Sys2Proof.Machine

open Sys2Proof

/-! ## Order count arithmetic (00_scope.md) -/

/-- Mark `a` is within horizon `h`: (h − a) mod 65536 is less than 32768. -/
def withinHorizon (h a : Word) : Bool := (h - a).toNat < 32768

/-- Mark `a` is later than mark `b`: they differ and (a − b) mod 65536 is less than 32768. -/
def laterThan (a b : Word) : Bool := a != b && (a - b).toNat < 32768

/-! ## Transitions of one record -/

/-- The record with its change counted (R6). -/
def counted (r : PointRecord) : PointRecord := { r with changeCount := r.changeCount + 1 }

/-- A transition whose resulting state is QUIET (R6). -/
def toQuiet (r : PointRecord) : PointRecord :=
  { state := .quiet, firstOut := false, silenced := false, changeCount := r.changeCount + 1, alertMark := 0 }

/-- A transition into RINGBACK: silenced cleared, first_out and mark kept (R9, R10). -/
def toRingback (r : PointRecord) : PointRecord := { counted r with state := .ringback, silenced := false }

/-- TRIP (R7, R8, R13): `groupHasFlag` says whether another point of the group holds first_out at the owner. -/
def trip (groupHasFlag : Bool) (newMark : Word) (r : PointRecord) : PointRecord :=
  match r.state with
  | .quiet => { counted r with state := .alert, firstOut := !groupHasFlag, silenced := false, alertMark := newMark }
  | .ringback => { counted r with state := .alert, firstOut := !groupHasFlag, silenced := false, alertMark := newMark }
  | .returned => { counted r with state := .alert, silenced := false, alertMark := newMark }
  | .alert => r
  | .held => r
  | .lost => r

/-- CLEAR (R9, R13). -/
def clear (lockIn ringback : Bool) (r : PointRecord) : PointRecord :=
  match r.state with
  | .alert => if lockIn then { counted r with state := .returned } else toQuiet r
  | .held => if ringback then toRingback r else toQuiet r
  | .quiet => r
  | .returned => r
  | .ringback => r
  | .lost => r

/-- ACK with a horizon (R10, R14). -/
def acknowledge (horizon : Word) (ringback : Bool) (r : PointRecord) : PointRecord :=
  match r.state with
  | .alert => if withinHorizon horizon r.alertMark then { counted r with state := .held } else r
  | .returned => if withinHorizon horizon r.alertMark then (if ringback then toRingback r else toQuiet r) else r
  | .quiet => r
  | .held => r
  | .ringback => r
  | .lost => r

/-- SILENCE (R11). -/
def silence (r : PointRecord) : PointRecord :=
  match r.state with
  | .alert => if r.silenced then r else { counted r with silenced := true }
  | .returned => if r.silenced then r else { counted r with silenced := true }
  | .quiet => r
  | .held => r
  | .ringback => r
  | .lost => r

/-- RESET (R12). -/
def resetPoint (r : PointRecord) : PointRecord :=
  match r.state with
  | .ringback => toQuiet r
  | .quiet => r
  | .alert => r
  | .returned => r
  | .held => r
  | .lost => r

/-- Entering LOST: first_out and silenced cleared, mark 0, change_count kept (R21). -/
def lose (r : PointRecord) : PointRecord :=
  match r.state with
  | .lost => r
  | .quiet | .alert | .returned | .held | .ringback => { r with state := .lost, firstOut := false, silenced := false, alertMark := 0 }

/-- The input level a state stands for; LOST implies none (R5). -/
def impliedLevel : PointState → Option Level
  | .alert => some .abnormal
  | .held => some .abnormal
  | .quiet => some .normal
  | .returned => some .normal
  | .ringback => some .normal
  | .lost => none

/-! ## Ownership (R3, R4, R115) -/

/-- A point table's records. -/
abbrev Records := Vector PointRecord 256

/-- The point has an owner (R4). -/
def usedPoint (c : PointConfig) : Bool := c.owner.isSome

/-- The point's configured owner is that station. -/
def ownerIs (n : Station) (c : PointConfig) : Bool := c.owner == some n

/-- The point is the station's own (00_scope.md, Own point). -/
def ownPoint (cfg : Configuration) (c : PointConfig) : Bool := c.owner.isSome && c.owner == cfg.self

/-- `usedPoint` of an index. -/
def isUsed (cfg : Configuration) (p : PointIndex) : Bool := usedPoint cfg.points[p]

/-- `ownerIs` of an index. -/
def ownedBy (cfg : Configuration) (n : Station) (p : PointIndex) : Bool := ownerIs n cfg.points[p]

/-- `ownPoint` of an index. -/
def isOwn (cfg : Configuration) (p : PointIndex) : Bool := ownPoint cfg cfg.points[p]

/-- Every point with its configuration, in index order. -/
def configRows (cfg : Configuration) : List (PointIndex × PointConfig) := allPoints.zip cfg.points.toList

/-- Every point with its configuration and record, in index order. -/
def pointRows (cfg : Configuration) (records : Records) : List (PointIndex × PointConfig × PointRecord) :=
  allPoints.zip (cfg.points.toList.zip records.toList)

/-- The own point configured on an input line, if the line is scanned (R115). -/
def pointOfLine (cfg : Configuration) (l : InputLine) : Option PointIndex :=
  ((configRows cfg).find? fun x => ownPoint cfg x.2 && x.2.inputLine == l).map (·.1)

/-- A line is scanned when it is the line of an own point (R115). -/
def isScanned (cfg : Configuration) (l : InputLine) : Bool := (pointOfLine cfg l).isSome

/-- A group mask names a group (00_scope.md, Groups and group masks). -/
def maskNames (mask : Word) (g : Group) : Bool := mask.getLsbD g.val

/-! ## First-out (R7, R24, R25) -/

/-- A used point of group `g`, other than `p`, that holds first_out. -/
def rivalIn (p : PointIndex) (g : Group) (x : PointIndex × PointConfig × PointRecord) : Bool :=
  x.2.2.firstOut && x.1 != p && x.2.1.group == g && usedPoint x.2.1

/-- Another used point of the group of `p` that holds first_out, if any. -/
def rivalOf (cfg : Configuration) (records : Records) (p : PointIndex) : Option PointIndex :=
  ((pointRows cfg records).find? (rivalIn p cfg.points[p].group)).map (·.1)

/-- Whether `p` is the one of two flagged points that loses its flag to `q` (R24). Marks exactly 32768 apart are the free value of
assumption 1. -/
def losesTie (p : PointIndex) (a : PointRecord) (q : PointIndex) (b : PointRecord) : Bool :=
  if laterThan a.alertMark b.alertMark then true
  else if laterThan b.alertMark a.alertMark then false
  else if a.alertMark = b.alertMark then q < p
  else if p < q then Config.halfRangeTieLowerLoses p q a b
  else !Config.halfRangeTieLowerLoses q p b a

/-- The record without its first_out flag; nothing else changes (R24). -/
def unflag (r : PointRecord) : PointRecord := { r with firstOut := false }

/-- The tie rule on the written point's group (R24). -/
def settleTie (cfg : Configuration) (records : Records) (p : PointIndex) : Records :=
  if records[p].firstOut then
    match rivalOf cfg records p with
    | none => records
    | some q =>
      if losesTie p records[p] q records[q] then records.set p (unflag records[p]) else records.set q (unflag records[q])
  else records

/-- A write of a carried record, all five fields, and then the tie rule (R16, R20, R24). -/
def writeRecord (cfg : Configuration) (records : Records) (p : PointIndex) (r : PointRecord) : Records :=
  settleTie cfg (records.set p r) p

/-! ## Changes of the whole table -/

/-- Every used point that is not the station's own becomes LOST (R21). -/
def loseOthers (cfg : Configuration) (records : Records) : Records :=
  zipTables (fun c r => if usedPoint c && !ownPoint cfg c then lose r else r) cfg.points records

/-- Every point of one owner becomes LOST; a station's own points never do (R21, R79). -/
def loseOwner (cfg : Configuration) (n : Station) (records : Records) : Records :=
  zipTables (fun c r => if ownerIs n c && !ownPoint cfg c then lose r else r) cfg.points records

/-- An operation on one point (R10 to R12). -/
def operate (op : Operation) (horizon : Word) (ringback : Bool) (r : PointRecord) : PointRecord :=
  match op with
  | .ack => acknowledge horizon ringback r
  | .silence => silence r
  | .reset => resetPoint r

/-- An operation applied to every used point of the named groups; LOST points are left as they are (R19). -/
def operateGroups (cfg : Configuration) (op : Operation) (groups horizon : Word) (records : Records) : Records :=
  zipTables (fun c r => if usedPoint c && maskNames groups c.group then operate op horizon c.ringback r else r) cfg.points records

/-- The point table at acceptance: own and unused points QUIET, others LOST, every field 0 and clear (R26). -/
def startingRecords (cfg : Configuration) : Records :=
  mapTable (fun c => if usedPoint c && !ownPoint cfg c then lose quietRecord else quietRecord) cfg.points

/-- The record the owner computes for a report (R6 to R9, R13, R15), from its own copies and order count. -/
def reportedRecord (cfg : Configuration) (records : Records) (orderCount : Word) (event : ReportEvent) (p : PointIndex) : PointRecord :=
  match event with
  | .trip => trip (rivalOf cfg records p).isSome (orderCount + 1) records[p]
  | .clear => clear cfg.points[p].lockIn cfg.points[p].ringback records[p]

end Sys2Proof.Machine
end

