-- ==== Sys2Proof/Machine/Flags.lean ====
section
/-! DEFINITION. What is computed from the records and read by the outputs and timers: the group summary (R28, R29), the activity classes
(R149), the arming conditions and the common rule of the timers (R150 to R160), and horn demand and pattern (R143 to R145). -/

namespace Sys2Proof.Machine

open Sys2Proof

/-! ## Line states by what they allow -/

/-- The states in which a station receives and judges frames (R88). -/
def receives : LineState → Bool
  | .listening => true
  | .joining => true
  | .syncing => true
  | .synced => true
  | .off => false
  | .withdrawn => false
  | .halted => false

/-- The states in which a station may have an attempt on the line (R49). -/
def transmits : LineState → Bool
  | .joining => true
  | .syncing => true
  | .synced => true
  | .off => false
  | .listening => false
  | .withdrawn => false
  | .halted => false

/-- The states in which the scanner and debouncers run and the panel follows the records (R117, R131, R145, R146, R157, R172). -/
def panelRuns : LineState → Bool
  | .listening => true
  | .joining => true
  | .syncing => true
  | .synced => true
  | .withdrawn => true
  | .off => false
  | .halted => false

/-! ## Counters -/

/-- A diagnostic counter's increment: it stops at 255 (R184). -/
def stepCounter (c : Byte) : Byte := if c = 255 then 255 else c + 1

/-! ## The group summary (R28, R29) -/

/-- Points in ALERT, RETURNED or HELD. -/
def isAlertState : PointState → Bool
  | .alert => true
  | .returned => true
  | .held => true
  | .quiet => false
  | .ringback => false
  | .lost => false

/-- Points in ALERT or RETURNED. -/
def isUnacknowledged : PointState → Bool
  | .alert => true
  | .returned => true
  | .quiet => false
  | .held => false
  | .ringback => false
  | .lost => false

/-- The number of used points of a group whose record satisfies a test (R28). -/
def groupCount (cfg : Configuration) (records : Records) (g : Group) (test : PointRecord → Bool) : Nat :=
  (pointRows cfg records).countP fun x => usedPoint x.2.1 && x.2.1.group == g && test x.2.2

/-- The first-out point of a group, or none (R28). -/
def groupFirstOut (cfg : Configuration) (records : Records) (g : Group) : Option PointIndex :=
  ((pointRows cfg records).find? fun x => x.2.2.firstOut && x.2.1.group == g && usedPoint x.2.1).map (·.1)

/-- A point counted in the figures of the control set: used, and its group named (R29). -/
def controlPoint (cfg : Configuration) (c : PointConfig) : Bool := usedPoint c && maskNames cfg.controlSet c.group

/-- `controlPoint` of an index. -/
def inControlSet (cfg : Configuration) (p : PointIndex) : Bool := controlPoint cfg cfg.points[p]

/-- A figure of the control-set summary: the group counts added over the named groups (R29), which is the count over their points. -/
def controlCount (cfg : Configuration) (records : Records) (test : PointRecord → Bool) : Nat :=
  (pointRows cfg records).countP fun x => controlPoint cfg x.2.1 && test x.2.2

/-- The control set's alert count (R28). -/
def alertCount (cfg : Configuration) (records : Records) : Nat := controlCount cfg records fun r => isAlertState r.state

/-- The control set's unacknowledged count (R28). -/
def unacknowledgedCount (cfg : Configuration) (records : Records) : Nat := controlCount cfg records fun r => isUnacknowledged r.state

/-- The control set's unsilenced count (R28). -/
def unsilencedCount (cfg : Configuration) (records : Records) : Nat :=
  controlCount cfg records fun r => isUnacknowledged r.state && !r.silenced

/-- The control set's ringback count (R28). -/
def ringbackCount (cfg : Configuration) (records : Records) : Nat := controlCount cfg records fun r => r.state == .ringback

/-- The control set's lost count (R28). -/
def lostCount (cfg : Configuration) (records : Records) : Nat := controlCount cfg records fun r => r.state == .lost

/-- Horn demand (R143). -/
def hornDemand (cfg : Configuration) (records : Records) : Bool := 0 < unsilencedCount cfg records || 0 < ringbackCount cfg records

/-! ## Activity classes (R65, R149) -/

/-- BUTTON, bit 0. -/
def classButton : Byte := 0x01
/-- INPUT, bit 1. -/
def classInput : Byte := 0x02
/-- ALERT_ANY, bit 2. -/
def classAlertAny : Byte := 0x04
/-- ALERT_SET, bit 3. -/
def classAlertSet : Byte := 0x08
/-- OPERATOR_ANY, bit 4. -/
def classOperatorAny : Byte := 0x10
/-- OPERATOR_OWN, bit 5. -/
def classOperatorOwn : Byte := 0x20
/-- MEMBERSHIP, bit 6. -/
def classMembership : Byte := 0x40
/-- TRANSMIT, bit 7. -/
def classTransmit : Byte := 0x80

/-- Raise activity classes at this moment (R149). -/
def raise (classes : Byte) (s : State) : State := s.setRaised (s.raised ||| classes)

/-- A new moment: nothing is raised yet. -/
def newMoment (s : State) : State := s.setRaised 0

/-- The classes raised at this moment are an activity for a timer whose mask names one of them (R150). -/
def actsOn (raised mask : Byte) : Bool := raised &&& mask != 0

/-! ## The timers -/

/-- The common rule of R153 over one moment: whether the arming condition holds after it, and whether a masked activity arose in it. By
R154 the order of the two within the moment does not matter. -/
def timerMoment (armed active : Bool) (reloadMs : Nat) (t : TimerState) : TimerState :=
  if armed then
    match t with
    | .idle => .counting reloadMs
    | .counting ms => if active then .counting reloadMs else .counting ms
    | .expired => if active then .counting reloadMs else .expired
  else .idle

/-- T0's arming condition (R155). -/
def t0Armed (s : State) : Bool := transmits s.seq.state

/-- T1's arming condition (R157). -/
def t1Armed (s : State) : Bool := s.cfg.t1ReloadMs != 0 && panelRuns s.seq.state

/-- T2's arming condition (R158). -/
def t2Armed (s : State) : Bool := s.cfg.t2ReloadMs != 0 && panelRuns s.seq.state && 0 < unacknowledgedCount s.cfg s.points

/-- T3's arming condition (R160). -/
def t3Armed (s : State) : Bool := s.cfg.t3ReloadMs != 0 && panelRuns s.seq.state && hornDemand s.cfg s.points

/-- The four timers take the moment (R150, R153). T0's mask is TRANSMIT (R151). -/
def settleTimers (s : State) : State :=
  s.setTimers
    { t0 := timerMoment (t0Armed s) (actsOn s.raised classTransmit) s.cfg.presenceMs s.timers.t0
      t1 := timerMoment (t1Armed s) (actsOn s.raised s.cfg.t1Mask) s.cfg.t1ReloadMs s.timers.t1
      t2 := timerMoment (t2Armed s) (actsOn s.raised s.cfg.t2Mask) s.cfg.t2ReloadMs s.timers.t2
      t3 := timerMoment (t3Armed s) (actsOn s.raised s.cfg.t3Mask) s.cfg.t3ReloadMs s.timers.t3
      presencePending := s.timers.presencePending }

/-! ## The horn -/

/-- The pattern the summary asks for (R144). -/
def demandedPattern (cfg : Configuration) (records : Records) : HornPattern :=
  if 0 < unsilencedCount cfg records then .continuous
  else if 0 < ringbackCount cfg records then .intermittent
  else .silent

/-- What the horn sounds: the demanded pattern, unless the T3 mute is in force or the state is OFF or HALTED (R145). -/
def hornPattern (s : State) : HornPattern :=
  if panelRuns s.seq.state && s.timers.t3 != .expired then demandedPattern s.cfg s.points else .silent

/-- The horn follows at once; each passage into INTERMITTENT starts the cycle with its on-phase (R144). -/
def settleHorn (s : State) : State :=
  s.setPanel
    { s.panel with
      horn := hornPattern s
      hornPhaseMs := if s.panel.horn == .intermittent && hornPattern s == .intermittent then s.panel.hornPhaseMs else 0 }

/-- What every moment comes to once its changes are complete: the timers, then the horn (R148, R150, R153). -/
def settle (s : State) : State := settleHorn (settleTimers s)

end Sys2Proof.Machine
end

