-- ==== Sys2Proof/Machine/Ops.lean ====
section
/-! DEFINITION. The shared operations of the commands: periods, reports and reconciliation (chapter 6), windows and the snapshot job
(R104 to R108), membership marking (R79, R84), and the passages between line states (R44, R48, R91, R98, R102). -/

namespace Sys2Proof.Machine

open Sys2Proof

/-! ## Periods in milliseconds -/

/-- The listen period, 2P (00_scope.md, Times). -/
def listenMs (cfg : Configuration) : Nat := 2 * cfg.presenceMs

/-- The sync timeout, 8P. -/
def syncMs (cfg : Configuration) : Nat := 8 * cfg.presenceMs

/-- The absent timeout, 4P. -/
def absentMs (cfg : Configuration) : Nat := 4 * cfg.presenceMs

/-- The repair interval, 8P. -/
def repairMs (cfg : Configuration) : Nat := 8 * cfg.presenceMs

/-- The withdrawal hold-off, 2 s (R45). -/
def holdOffMs : Nat := 2000

/-- The settling time of a button, 20 ms (R131). -/
def buttonSettlingMs : Nat := 20

/-- The limit of a lamp test, 30 s (R170). -/
def lampTestMs : Nat := 30000

/-- The report queue holds up to 24 entries (R122). -/
def reportCapacity : Nat := 24

/-- The operator queue holds up to 4 entries (R139). -/
def operatorCapacity : Nat := 4

/-- Consecutive failures that bring withdrawal (R43). -/
def failureLimit : Nat := 16

/-- Echo mismatches in a row that halt the station (R46). -/
def mismatchLimit : Nat := 3

/-! ## Digest and own number -/

/-- A carried digest equals the station's own (R71). -/
def digestMatches (s : State) (carried : Word) : Bool := s.loader.digest == some carried

/-- The digest a station places in its frames. -/
def ownDigest (s : State) : Word := s.loader.digest.getD 0

/-- The station number field of this station's frames. -/
def ownField (s : State) : Option StationField := s.cfg.self.map fieldOf

/-! ## Debouncing (R118, R132) -/

/-- A settling timer's expiry: the stable level takes the raw level, and STEADY (R118, R132). -/
def settleLevel {α : Type} (d : Debouncer α) : Debouncer α := { d with stable := d.raw, settling := none }

/-- A sample in STEADY, with the debounce time (R118, R132). With time 0 the stable level takes the raw level at once. -/
def steadySample {α : Type} [DecidableEq α] (time : Nat) (level : α) (d : Debouncer α) : Debouncer α :=
  if level = d.stable then { d with raw := level, settling := none }
  else if time = 0 then { raw := level, stable := level, settling := none }
  else { d with raw := level, settling := some time }

/-- A sample in the table of R118 and R132, with the debounce time. A settling timer that has 0 left is at the instant of its expiry: a sample
back at the stable level then finds the level settled, and starts a new settling toward the old one. -/
def takeSample {α : Type} [DecidableEq α] (time : Nat) (level : α) (d : Debouncer α) : Debouncer α :=
  match d.settling with
  | none => steadySample time level d
  | some ms =>
    if level = d.stable then
      if ms = 0 then steadySample time level (settleLevel d) else { d with raw := level, settling := none }
    else { d with raw := level }

/-- The raw level of a contact reading under a point's polarity (R116). -/
def levelOf (abnormalWhenClosed : Bool) (c : Contact) : Level :=
  match c, abnormalWhenClosed with
  | .closed, true => .abnormal
  | .closed, false => .normal
  | .opened, true => .normal
  | .opened, false => .abnormal

/-- The raw level of a pushbutton reading (R131). -/
def buttonLevelOf : Contact → ButtonLevel
  | .closed => .pressed
  | .opened => .released

/-! ## Reconciliation (R120, R121) -/

/-- A scanned line whose stable level differs from its reported level (R120). -/
def isUnreported (cfg : Configuration) (scanner : InputScanner) (l : InputLine) : Bool :=
  scanner.lines[l].debouncer.stable != scanner.lines[l].reported && isScanned cfg l

/-- The unreported count (R127). -/
def unreportedCount (cfg : Configuration) (scanner : InputScanner) : Nat := allLines.countP (isUnreported cfg scanner)

/-- The report that brings a line to a level: TRIP for abnormal, CLEAR for normal (R121). -/
def reportOf : Level → ReportEvent
  | .abnormal => .trip
  | .normal => .clear

/-- The level a report brings a line to (R120). -/
def levelOfReport : ReportEvent → Level
  | .trip => .abnormal
  | .clear => .normal

/-- Append the entry of one line and set its reported level to its stable level (R121). -/
def appendReport (scanner : InputScanner) (l : InputLine) : InputScanner :=
  { lines := scanner.lines.set l { scanner.lines[l] with reported := scanner.lines[l].debouncer.stable }
    queue := scanner.queue ++ [{ line := l, event := reportOf scanner.lines[l].debouncer.stable }] }

/-- The test of R121, repeated: while there is room, the lowest-numbered unreported line is reported. `rounds` bounds the repetition;
each round fills a place, so `reportCapacity` rounds reach the end. -/
def reconcileRounds (cfg : Configuration) : Nat → InputScanner → InputScanner
  | 0, scanner => scanner
  | rounds + 1, scanner =>
    if scanner.queue.length < reportCapacity then
      match allLines.find? (isUnreported cfg scanner) with
      | none => scanner
      | some l => reconcileRounds cfg rounds (appendReport scanner l)
    else scanner

/-- Reconciliation: only while SYNCED (R121). -/
def reconcile (s : State) : State :=
  if s.seq.state = .synced then s.setScanner (reconcileRounds s.cfg reportCapacity s.scanner) else s

/-! ## Windows and own points (R104 to R108) -/

/-- A point lies in a window. -/
def inWindow (w : Window) (p : PointIndex) : Bool :=
  w.rowLow ≤ p.val / 16 && p.val / 16 ≤ w.rowHigh && w.columnLow ≤ p.val % 16 && p.val % 16 ≤ w.columnHigh

/-- The points of an owner within a window, in row-major order (R107, R110). -/
def pointsInWindow (cfg : Configuration) (owner : Option Station) (w : Window) : List PointIndex :=
  ((configRows cfg).filter fun x => x.2.owner.isSome && x.2.owner == owner && inWindow w x.1).map (·.1)

/-- Those from a cursor onward (R108, R111). -/
def pointsFrom (cfg : Configuration) (owner : Option Station) (w : Window) (cursor : Option PointIndex) : List PointIndex :=
  match cursor with
  | none => []
  | some c => (pointsInWindow cfg owner w).filter (c ≤ ·)

/-- The number of records the job's next DATA part carries (R108). -/
def partSize (remaining : Nat) : Nat := min 3 remaining

/-- The job at START_PENDING for a window. -/
def startJob (w : Window) (t : TransferUnit) : TransferUnit := { t with job := .startPending w }

/-- A whole-grid restart: the slot is emptied, no drop counted (R105). -/
def restartWholeGrid (s : State) : State := s.setTransfer { s.transfer with job := .startPending wholeGrid, pendingRegion := none }

/-- The job's end: it is IDLE and at once takes the pending-region slot's window (R106). -/
def finishJob (t : TransferUnit) : TransferUnit :=
  match t.pendingRegion with
  | none => { t with job := .idle }
  | some w => { t with job := .startPending w, pendingRegion := none }

/-- The job moves past the part sent (R107, R108). -/
def advanceJob (cfg : Configuration) (t : TransferUnit) : TransferUnit :=
  match t.job with
  | .idle => t
  | .startPending w =>
    match pointsInWindow cfg cfg.self w with
    | [] => finishJob t
    | p :: rest => { t with job := .dataPending w (some p) 1 (rest.length + 1) }
  | .dataPending w cursor part remaining =>
    if remaining ≤ partSize remaining then finishJob t
    else
      { t with
        job := .dataPending w ((pointsFrom cfg cfg.self w cursor).drop (partSize remaining)).head? (part + 1)
                (remaining - partSize remaining) }

/-! ## Membership (R79, R80, R84) -/

/-- The entry held for a station is STALE. -/
def isStale (s : State) (n : Station) : Bool := s.cfg.self != some n && s.members.entries[n].state == .stale

/-- Some entry is STALE. -/
def anyStale (s : State) : Bool := allStations.any (isStale s)

/-- The lowest-numbered STALE station (R85). -/
def lowestStale (s : State) : Option Station := allStations.find? (isStale s)

/-- The entry held for a station is PRESENT. -/
def isPresent (s : State) (n : Station) : Bool := s.cfg.self != some n && s.members.entries[n].state == .present

/-- Write a membership entry. -/
def setEntry (n : Station) (e : MemberEntry) (s : State) : State :=
  s.setMembers { s.members with entries := s.members.entries.set n e }

/-- Close the receive context for a sender, without counting (R79, R110). -/
def closeContext (n : Station) (s : State) : State := s.setTransfer { s.transfer with contexts := s.transfer.contexts.set n none }

/-- The loss of a station: its points LOST, its context closed (R79). -/
def loseStation (n : Station) (s : State) : State := closeContext n (s.setPoints (loseOwner s.cfg n s.points))

/-- Set an entry's state by a transition: a change is a MEMBERSHIP activity, and a change to ABSENT or MISMATCH is a loss (R79, R80). -/
def moveEntry (n : Station) (e : MemberEntry) (s : State) : State :=
  if e.state = s.members.entries[n].state then setEntry n e s
  else if e.state = .absent ∨ e.state = .mismatch then loseStation n (raise classMembership (setEntry n e s))
  else raise classMembership (setEntry n e s)

/-- An attempt of the repair query is on the line (R84). -/
def repairOnLine (s : State) : Bool :=
  match s.line.attempt with
  | some a => a.source == .membershipTable
  | none => false

/-- The test of R84: set the repair query flag when SYNCED with a STALE entry, the flag clear and the repair timer not running; clear it
when no entry remains STALE and no attempt of the query is on the line. -/
def repairTest (s : State) : State :=
  if s.members.repairFlag && !anyStale s && !repairOnLine s then s.setMembers { s.members with repairFlag := false }
  else if s.seq.state == .synced && anyStale s && !s.members.repairFlag && s.members.repairTimer.isNone then
    s.setMembers { s.members with repairFlag := true }
  else s

/-- The clearing of the table (R69). -/
def clearedMembers (m : MembershipTable) : MembershipTable :=
  { m with entries := Vector.replicate 30 absentEntry, repairFlag := false, repairTimer := none }

/-- The transfer unit emptied without counting (R44, R102). -/
def clearedTransfer (t : TransferUnit) : TransferUnit :=
  { t with job := .idle, pendingRegion := none, contexts := Vector.replicate 30 none }

/-! ## Passages between line states -/

/-- The order count is founded at entry to SYNCED when it is not valid, no POINT frame was heard and no entry is STALE or PRESENT
(R97). -/
def foundsCount (s : State) : Bool :=
  !s.seq.countValid && !s.seq.pointHeard && allStations.all fun n => !isStale s n && !isPresent s n

/-- Entry to SYNCED (R97, R98), but for the repair test, which follows every change of membership. -/
def enterSynced (s : State) : State :=
  reconcile
    (restartWholeGrid
      (s.setSeq
        { s.seq with
          state := .synced
          syncTimer := none
          orderCount := if foundsCount s then 0 else s.seq.orderCount
          countValid := s.seq.countValid || foundsCount s }))

/-- Entry to LISTENING (R91, R21). -/
def enterListening (reason : JoinReason) (s : State) : State :=
  (s.setPoints (loseOthers s.cfg s.points)).setSeq
    { state := .listening, joinReason := reason, listenTimer := some (listenMs s.cfg), syncTimer := none, joinPending := false,
      orderCount := 0, countValid := false, pointHeard := false }

/-- The control of the line is let go: no attempt, the line left recessive. -/
def releaseLine (s : State) : State := s.setLine { s.line with attempt := none, drive := .recessive }

/-- The station begins to receive, and has seen no idle gap yet (R35). -/
def awaitGap (s : State) : State := s.setLine { s.line with awaitsGap := true }

/-- The station has seen an idle gap in full since it began to receive (R35). -/
def gapSeen (s : State) : State := s.setLine { s.line with awaitsGap := false }

/-- The station receives the frame whose start bit came `gap` bit times after the line was last seen dominant: its state receives (R88), and it has
seen an idle gap in full, ahead of this frame or of one before (R35). -/
def hears (gap : Nat) (s : State) : Bool := receives s.seq.state && (!s.line.awaitsGap || decide (idleGapBits ≤ gap))

/-- A frame, a void or a fault on the line: at a station that hears it, `effect`, the gap having been seen. A frame that was on the line as the
station began to receive is neither received, voided nor fault-marked (R35), and a state that does not receive takes nothing (R88). -/
def whenHeard (gap : Nat) (effect : State → State) (s : State) : State := if hears gap s then effect (gapSeen s) else s

/-- Entry to WITHDRAWN (R44, R89, R100), before its moment is settled. The report queue, the reported levels and the own points are kept
(R27, R130). -/
def enterWithdrawn (s : State) : State :=
  { s with
    points := loseOthers s.cfg s.points
    seq :=
      { s.seq with
        state := .withdrawn, listenTimer := none, syncTimer := none, joinPending := false, orderCount := 0, countValid := false
        pointHeard := false }
    line :=
      { s.line with
        attempt := none, drive := .recessive, failures := 0, mismatches := 0, holdOff := some holdOffMs
        withdrawals := stepCounter s.line.withdrawals }
    members := clearedMembers s.members
    transfer := clearedTransfer s.transfer
    panel := { s.panel with queue := [] }
    timers := { s.timers with presencePending := false }
    responder := none }

/-- Entry to HALTED for a duplicate station number (R48, R86, R101, R134, R142), before its moment is settled: the station leaves the
line, its timers stop, its buttons are taken as released, and every other item keeps its value. -/
def enterHalted (s : State) : State :=
  { s with
    seq := { s.seq with state := .halted, listenTimer := none, syncTimer := none }
    line := { s.line with attempt := none, drive := .recessive, holdOff := none }
    members := { s.members with repairTimer := none }
    panel := { s.panel with ack := restingButton, silence := restingButton, reset := restingButton, test := restingButton }
    lamp := { s.lamp with test := .idle } }

/-- A scanned line's reported level re-based on its point's implied level (R129). -/
def rebasedLine (cfg : Configuration) (records : Records) (l : InputLine) (x : ScannedLine) : ScannedLine :=
  match pointOfLine cfg l with
  | none => x
  | some p =>
    match impliedLevel records[p].state with
    | some level => { x with reported := level }
    | none => x

/-- Soft restart (R102, R129, R162). The timers T1 to T3 withdraw their effects and go IDLE; their arming conditions are tested when the
moment is settled. -/
def softRestart (s : State) : State :=
  enterListening .softRestart
    { s with
      scanner := { lines := tabulate fun l => rebasedLine s.cfg s.points l s.scanner.lines[l], queue := [] }
      panel := { s.panel with queue := [] }
      transfer := clearedTransfer s.transfer
      responder := none
      members := clearedMembers s.members
      timers := { s.timers with t1 := .idle, t2 := .idle, t3 := .idle, presencePending := false } }

end Sys2Proof.Machine
end

