-- ==== Sys2Proof/Machine/Consumers.lean ====
section
/-! DEFINITION. What a frame's content does at its successful end, block by block: the membership table (R70 to R77), the point table (R16,
R18, R19, R20, R30), the station sequencer (R16, R82, R89), the transfer unit (R95, R105, R106, R110 to R112) and the service responder
(R177, R178, R182, R183). The sender's own frames are taken in the same way (R41); own numbers reach no membership entry (R70). -/

namespace Sys2Proof.Machine

open Sys2Proof

/-! ## The membership table -/

/-- A digest judgement (R71). -/
inductive DigestOutcome where
  | same | differs | unjudged
  deriving DecidableEq, Repr

/-- What the membership table hears of a frame (R73 to R77). `synced` is the line state a PRESENCE carries, `complete` a full window with
total 0, `completes` the last part of a full-window transfer taken through an open context. -/
inductive Heard where
  | join
  | presence (synced : Bool)
  | pointOrOperator
  | start (complete : Bool)
  | data (completes : Bool)
  | queryReplyOrMalformed
  deriving DecidableEq, Repr

/-- An entry that is ABSENT or MISMATCH becomes STALE; others stay (R75). -/
def staleIfLost : MemberState → MemberState
  | .absent => .stale
  | .mismatch => .stale
  | .joining => .joining
  | .stale => .stale
  | .present => .present

/-- The state a PRESENCE from a SYNCED sender brings (R74). -/
def staleUnlessPresent : MemberState → MemberState
  | .present => .present
  | .absent => .stale
  | .joining => .stale
  | .stale => .stale
  | .mismatch => .stale

/-- The state a matching DATA part brings (R76). -/
def afterData (completes : Bool) : MemberState → MemberState
  | .absent => .stale
  | .joining => if completes then .present else .joining
  | .stale => if completes then .present else .stale
  | .present => .present
  | .mismatch => .mismatch

/-- The table of section 4.3 (R73 to R77). -/
def nextMember (h : Heard) (o : DigestOutcome) (m : MemberState) : MemberState :=
  match h, o with
  | .queryReplyOrMalformed, _ => m
  | .data completes, .same => afterData completes m
  | .data _, _ => m
  | _, .unjudged => m
  | _, .differs => .mismatch
  | .join, .same => .joining
  | .presence true, .same => staleUnlessPresent m
  | .presence false, .same => .joining
  | .pointOrOperator, .same => staleIfLost m
  | .start true, .same => .present
  | .start false, .same => staleIfLost m

/-- The judgement of a carried digest (R71). -/
def judgeDigest (s : State) (carried : Word) : DigestOutcome := if digestMatches s carried then .same else .differs

/-- The judgement of a DATA frame, from the entry's last digest as it stood (R71). -/
def judgeData (s : State) (n : Station) : DigestOutcome :=
  match s.members.entries[n].lastDigest with
  | none => .unjudged
  | some d => judgeDigest s d

/-- The table hears a frame: the entry takes its state, its age is reset to 0, and a carried digest becomes the last digest (R71, R72).
Numbers 0 and 31 and the station's own reach no entry (R70). -/
def hear (sender : StationField) (h : Heard) (o : DigestOutcome) (carried : Option Word) (s : State) : State :=
  match stationOfField sender with
  | none => s
  | some n =>
    if s.cfg.self = some n then s
    else
      moveEntry n
        { state := nextMember h o s.members.entries[n].state, ageMs := 0, lastDigest := carried.or s.members.entries[n].lastDigest } s

/-! ## The station sequencer -/

/-- Every POINT frame that ends successfully advances a valid count by 1 and is remembered as heard (R16, R89). -/
def countPoint (s : State) : State :=
  s.setSeq { s.seq with orderCount := if s.seq.countValid then s.seq.orderCount + 1 else s.seq.orderCount, pointHeard := true }

/-- Order-count adoption (R82): from a sender numbered 1 to 30, with a matching digest and the count-valid flag set (assumption 7). -/
def adoptCount (sender : StationField) (carried : Word) (count : Option Word) (s : State) : State :=
  match count with
  | none => s
  | some c =>
    if !s.seq.countValid && digestMatches s carried && (stationOfField sender).isSome then
      s.setSeq { s.seq with orderCount := c, countValid := true }
    else s

/-! ## The point table -/

/-- ALERT_ANY and ALERT_SET (R30): the write leaves the point in ALERT and it was in another state before. -/
def alertClasses (cfg : Configuration) (p : PointIndex) (before after : PointState) : Byte :=
  if after = .alert ∧ before ≠ .alert then (if inControlSet cfg p then classAlertAny ||| classAlertSet else classAlertAny) else 0

/-- The write of a POINT frame's record, under the three conditions of R16 and the check of R18. -/
def writePoint (sender : StationField) (p : PointIndex) (w : WireRecord) (carried : Word) (s : State) : State :=
  match stationOfField sender with
  | none => s
  | some n =>
    if digestMatches s carried && ownedBy s.cfg n p then
      match recordOfWire w with
      | none => s
      | some r => raise (alertClasses s.cfg p s.points[p].state r.state) (s.setPoints (writeRecord s.cfg s.points p r))
    else s

/-- A POINT frame's content (R16, R75). -/
def takePoint (sender : StationField) (p : PointIndex) (w : WireRecord) (carried : Word) (s : State) : State :=
  writePoint sender p w carried (hear sender .pointOrOperator (judgeDigest s carried) (some carried) (countPoint s))

/-- An OPERATOR frame's content: only the digest decides whether it is applied (R19, R30, R75). -/
def takeOperator (sender : StationField) (op : Operation) (groups horizon carried : Word) (s : State) : State :=
  if digestMatches s carried then
    raise classOperatorAny
      ((hear sender .pointOrOperator .same (some carried) s).setPoints
        (operateGroups s.cfg op groups horizon (hear sender .pointOrOperator .same (some carried) s).points))
  else hear sender .pointOrOperator .differs (some carried) s

/-! ## The transfer unit -/

/-- The responder rule: a SYNCED station answers a matching JOIN of a sender numbered 1 to 30 with a whole-grid job (R95). -/
def answerJoin (sender : StationField) (carried : Word) (s : State) : State :=
  if s.seq.state = .synced ∧ digestMatches s carried ∧ (stationOfField sender).isSome then restartWholeGrid s else s

/-- A JOIN's content (R73, R95). The reason is not acted on (R58). -/
def takeJoin (sender : StationField) (carried : Word) (s : State) : State :=
  hear sender .join (judgeDigest s carried) (some carried) (answerJoin sender carried s)

/-- The receive context a START leaves (R110). -/
def contextOfStart (cfg : Configuration) (n : Station) (w : Window) (total : Nat) (same : Bool) : Option ReceiveContext :=
  if same ∧ total ≠ 0 then
    some { window := w, fullWindow := w == wholeGrid, cursor := (pointsInWindow cfg (some n) w).head?, expectedPart := 1, remaining := total }
  else none

/-- Replace the receive context of a sender. -/
def setContext (n : Station) (c : Option ReceiveContext) (s : State) : State :=
  s.setTransfer { s.transfer with contexts := s.transfer.contexts.set n c }

/-- A START's content (R75, R82, R110). One signed 0 or 31 reaches no context (R109). -/
def takeStart (sender : StationField) (w : Window) (total : Nat) (count : Option Word) (carried : Word) (s : State) : State :=
  match stationOfField sender with
  | none => s
  | some n =>
    adoptCount sender carried count
      (hear sender (.start (w == wholeGrid && total == 0)) (judgeDigest s carried) (some carried)
        (setContext n (contextOfStart s.cfg n w total (digestMatches s carried)) s))

/-- A DATA part agrees with an open context (R111). -/
def partAgrees (cfg : Configuration) (n : Station) (c : ReceiveContext) (part : Nat) (last : Bool) (count : Nat) : Bool :=
  part == c.expectedPart && count ≤ c.remaining && count ≤ (pointsFrom cfg (some n) c.window c.cursor).length
    && last == (count == c.remaining)

/-- The write of one carried record at the cursor, refused by R18 for a code that names LOST or no state (R20). -/
def writeCarried (cfg : Configuration) (records : Records) (p : PointIndex) (w : WireRecord) : Records :=
  match recordOfWire w with
  | none => records
  | some r => writeRecord cfg records p r

/-- The records of a part, written in order from the cursor, the tie rule after each (R111). -/
def writePart (cfg : Configuration) (n : Station) (c : ReceiveContext) (ws : List WireRecord) (records : Records) : Records :=
  ((pointsFrom cfg (some n) c.window c.cursor).zip ws).foldl (fun rs pw => writeCarried cfg rs pw.1 pw.2) records

/-- The context after a part taken: CLOSED by the last part (R111). -/
def contextAfterPart (cfg : Configuration) (n : Station) (c : ReceiveContext) (count : Nat) : Option ReceiveContext :=
  if count = c.remaining then none
  else
    some
      { c with
        cursor := ((pointsFrom cfg (some n) c.window c.cursor).drop count).head?
        expectedPart := c.expectedPart + 1
        remaining := c.remaining - count }

/-- A transfer drop (R112, R64): the context is closed and the drop counted. -/
def dropTransfer (n : Station) (s : State) : State :=
  s.setTransfer
    { s.transfer with contexts := s.transfer.contexts.set n none, transferDrops := stepCounter s.transfer.transferDrops }

/-- A part taken through an open context (R111). -/
def followPart (n : Station) (c : ReceiveContext) (ws : List WireRecord) (s : State) : State :=
  setContext n (contextAfterPart s.cfg n c ws.length) (s.setPoints (writePart s.cfg n c ws s.points))

/-- A DATA part's content (R76, R111, R112). -/
def takeData (sender : StationField) (part : Nat) (last : Bool) (ws : List WireRecord) (s : State) : State :=
  match stationOfField sender with
  | none => s
  | some n =>
    match s.transfer.contexts[n] with
    | none => hear sender (.data false) (judgeData s n) none (dropTransfer n s)
    | some c =>
      if partAgrees s.cfg n c part last ws.length then
        hear sender (.data (last && c.fullWindow)) (judgeData s n) none (followPart n c ws s)
      else hear sender (.data false) (judgeData s n) none (dropTransfer n s)

/-- A request for a region (R105, R106, R182). -/
def takeRegion (w : Window) (s : State) : State :=
  if s.seq.state = .synced ∧ windowValid w then
    match s.transfer.job, s.transfer.pendingRegion with
    | .idle, _ => s.setTransfer (startJob w s.transfer)
    | _, none => s.setTransfer { s.transfer with pendingRegion := some w }
    | _, some _ => s.setTransfer { s.transfer with pendingRegion := some w, regionDrops := stepCounter s.transfer.regionDrops }
  else s.setTransfer { s.transfer with regionDrops := stepCounter s.transfer.regionDrops }

/-! ## PRESENCE (R74, R82, R83) -/

/-- A disagreement of order counts with a PRESENT, matching, SYNCED peer (R83). -/
def disagrees (sender : StationField) (carried : Word) (count : Option Word) (peer : LineState) (s : State) : Bool :=
  match stationOfField sender with
  | none => false
  | some n =>
    s.seq.state == .synced && s.seq.countValid && digestMatches s carried && peer == .synced && isPresent s n
      && count != some s.seq.orderCount

/-- Count an order disagreement (R83). -/
def countDisagreement (s : State) : State :=
  s.setMembers { s.members with orderDisagreements := stepCounter s.members.orderDisagreements }

/-- A PRESENCE's content. -/
def takePresence (sender : StationField) (carried : Word) (count : Option Word) (peer : LineState) (s : State) : State :=
  adoptCount sender carried count
    (hear sender (.presence (peer == .synced)) (judgeDigest s carried) (some carried)
      (if disagrees sender carried count peer s then countDisagreement s else s))

/-! ## The service responder (R177, R178, R182, R183) -/

/-- The target is this station's own number. -/
def targetsSelf (s : State) (target : Fin 31) : Bool :=
  match s.cfg.self with
  | some n => target.val == numberOf n
  | none => false

/-- A query, judged by its kind and target (R177). -/
def answerQuery (sender : StationField) (q : Query) (s : State) : State :=
  match q with
  | .status t =>
    if targetsSelf s t then s.setResponder (some { kind := .status, requester := sender, secondHalf := false }) else s
  | .members t half =>
    if targetsSelf s t then s.setResponder (some { kind := .members, requester := sender, secondHalf := half }) else s
  | .region t w => if targetsSelf s t || t.val == 0 then takeRegion w s else s
  | .restart t => if targetsSelf s t then softRestart s else s

/-- A QUERY's content: a frame heard from its sender (R77), then judged by the responder. -/
def takeQuery (sender : StationField) (q : Query) (s : State) : State :=
  answerQuery sender q (hear sender .queryReplyOrMalformed .unjudged none s)

/-- A REPLY, or a malformed frame, resets its sender's age and moves no state (R64, R77, R186). -/
def hearOnly (sender : StationField) (s : State) : State := hear sender .queryReplyOrMalformed .unjudged none s

/-! ## Malformed frames (R64) -/

/-- A malformed frame of a class: a POINT still counts, a SNAPSHOT of a sender numbered 1 to 30 closes its context and counts a drop. -/
def takeMalformed (cls : FrameClass) (sender : StationField) (s : State) : State :=
  match cls with
  | .point => hearOnly sender (countPoint s)
  | .snapshot =>
    match stationOfField sender with
    | some n => hearOnly sender (dropTransfer n s)
    | none => s
  | .operator => hearOnly sender s
  | .join => hearOnly sender s
  | .presence => hearOnly sender s
  | .query => hearOnly sender s
  | .reply => hearOnly sender s
  | .unassigned => s

/-- What a received frame does at its consumers (assumption 18). -/
def takeContent (sender : StationField) (content : FrameContent) (s : State) : State :=
  match content with
  | .point p w d => takePoint sender p w d s
  | .operator op g h d => takeOperator sender op g h d s
  | .join d _ => takeJoin sender d s
  | .start w total count d => takeStart sender w total count d s
  | .data part last ws => takeData sender part last ws s
  | .presence d count peer => takePresence sender d count peer s
  | .query q => takeQuery sender q s
  | .reply _ _ _ => hearOnly sender s

/-- A received payload of a class, read by its layout (R63, R64). -/
def takePayload (cls : FrameClass) (sender : StationField) (payload : List Byte) (s : State) : State :=
  match readPayload cls payload with
  | none => takeMalformed cls sender s
  | some content => takeContent sender content s

/-! ## A moment of the membership table -/

/-- The end of synchronisation: a change of membership that leaves no entry STALE (R96). -/
def synchronise (s : State) : State :=
  if s.seq.state = .syncing ∧ actsOn s.raised classMembership ∧ !anyStale s then enterSynced s else s

/-- What follows a membership change within its moment (R84, R96), and the settling of the moment. -/
def settleMembership (s : State) : State := settle (repairTest (synchronise s))

/-- A station as a frame of another sender ends: it has no attempt of its own on the line (R37, assumption 5), and a new moment begins. -/
def listeningFrame (s : State) : State := releaseLine (newMoment s)

/-- The successful end of a frame this station did not send (R40), at a station that hears it (R35, R88). One that carries the station's own
number halts it in place of every effect (R47). -/
def frameEnds (heading : FrameHeading) (taken : State → State) (s : State) : State :=
  whenHeard heading.gap
    (fun s =>
      if ownField s = some heading.sender then settle (enterHalted (listeningFrame s)) else settleMembership (taken (listeningFrame s)))
    s

end Sys2Proof.Machine
end

