-- ==== Sys2Proof/Machine/Transmit.lean ====
section
/-! DEFINITION. The transmit selector and the frames it has built (R49 to R51, R81, R85, R93, R107, R108, R124, R140, R179 to R181). -/

namespace Sys2Proof.Machine

open Sys2Proof

/-! ## Sources (R49) -/

/-- The sources in the order of their classes. -/
def allSources : List Source :=
  [.reportQueue, .operatorQueue, .sequencer, .transferUnit, .timerT0, .membershipTable, .serviceResponder]

/-- The class of a source's frames (R49). -/
def classOfSource : Source → FrameClass
  | .reportQueue => .point
  | .operatorQueue => .operator
  | .sequencer => .join
  | .transferUnit => .snapshot
  | .timerT0 => .presence
  | .membershipTable => .query
  | .serviceResponder => .reply

/-- The sources a line state allows (R49). -/
def sourceAllowed (state : LineState) (src : Source) : Bool :=
  match state, src with
  | .synced, _ => true
  | .joining, .sequencer => true
  | .joining, .timerT0 => true
  | .joining, .serviceResponder => true
  | .syncing, .timerT0 => true
  | .syncing, .serviceResponder => true
  | _, _ => false

/-- A source is ready (R49). -/
def sourceReady (s : State) (src : Source) : Bool :=
  match src with
  | .reportQueue => !s.scanner.queue.isEmpty
  | .operatorQueue => !s.panel.queue.isEmpty
  | .sequencer => s.seq.joinPending
  | .transferUnit => s.transfer.job != .idle
  | .timerT0 => s.timers.presencePending
  | .membershipTable => s.members.repairFlag
  | .serviceResponder => s.responder.isSome

/-! ## The reply bodies (R62, R180, R181) -/

/-- The order count as a frame carries it: none while it is not valid (R60, R97). -/
def carriedCount (s : State) : Option Word := if s.seq.countValid then some s.seq.orderCount else none

/-- The queue byte of a STATUS reply: report queue depth in bits 7 to 3, operator queue depth in bits 2 to 0 (R62). -/
def queueByte (s : State) : Byte := BitVec.ofNat 5 s.scanner.queue.length ++ BitVec.ofNat 3 s.panel.queue.length

/-- The data of a STATUS reply (R62, R180). -/
def statusBody (s : State) : List Byte :=
  [stateByte s.seq.countValid s.seq.state, queueByte s, BitVec.ofNat 8 s.line.failures, s.line.withdrawals, s.line.voidsDriven,
    s.panel.pressDrops, s.transfer.regionDrops, s.transfer.transferDrops, s.members.orderDisagreements]
    ++ countBytes (carriedCount s) ++ wordBytes (ownDigest s) ++ [BitVec.ofNat 8 (unreportedCount s.cfg s.scanner)]

/-- The membership code a MEMBERS reply carries for a station number: 15 for the replier's own (R62, R181). -/
def memberCode (s : State) (number : Nat) : BitVec 4 :=
  match stationOfNumber number with
  | none => 0
  | some n => if s.cfg.self = some n then 15 else codeOfMember s.members.entries[n].state

/-- The data of a MEMBERS reply: the half, then fifteen codes in pairs, the last low four bits unused (R62, R181). -/
def membersBody (s : State) (secondHalf : Bool) : List Byte :=
  (if secondHalf then 1 else 0)
    :: ((List.range 8).map fun k =>
        memberCode s ((if secondHalf then 16 else 1) + 2 * k)
          ++ (if k < 7 then memberCode s ((if secondHalf then 16 else 1) + 2 * k + 1) else 0))

/-! ## Building (R50) -/

/-- The POINT frame of the head report entry (R15, R124). -/
def buildPoint (s : State) : Option FrameContent :=
  match s.scanner.queue with
  | [] => none
  | e :: _ =>
    (pointOfLine s.cfg e.line).map fun p =>
      .point p (wireOfRecord (reportedRecord s.cfg s.points s.seq.orderCount e.event p)) (ownDigest s)

/-- The OPERATOR frame of the head operator entry (R140). -/
def buildOperator (s : State) : Option FrameContent :=
  match s.panel.queue with
  | [] => none
  | e :: _ => some (.operator e.operation e.groups e.horizon (ownDigest s))

/-- The SNAPSHOT frame of the job (R107, R108). -/
def buildSnapshot (s : State) : Option FrameContent :=
  match s.transfer.job with
  | .idle => none
  | .startPending w => some (.start w (pointsInWindow s.cfg s.cfg.self w).length (carriedCount s) (ownDigest s))
  | .dataPending w cursor part remaining =>
    some
      (.data part (partSize remaining == remaining)
        (((pointsFrom s.cfg s.cfg.self w cursor).take (partSize remaining)).map fun p => wireOfRecord s.points[p]))

/-- The REPLY frame of the slot's request (R179 to R181). -/
def buildReply (s : State) : Option FrameContent :=
  match s.responder with
  | none => none
  | some r =>
    some
      (.reply r.kind ((0 : BitVec 3) ++ r.requester)
        (match r.kind with
          | .status => statusBody s
          | .members => membersBody s r.secondHalf))

/-- The frame a source builds from the state at the attempt start (R50). -/
def buildFrame (s : State) (src : Source) : Option FrameContent :=
  match src with
  | .reportQueue => buildPoint s
  | .operatorQueue => buildOperator s
  | .sequencer => some (.join (ownDigest s) s.seq.joinReason)
  | .transferUnit => buildSnapshot s
  | .timerT0 => some (.presence (ownDigest s) (carriedCount s) s.seq.state)
  | .membershipTable =>
    (lowestStale s).map fun n => .query (.region ⟨numberOf n, by simp only [numberOf]; omega⟩ wholeGrid)
  | .serviceResponder => buildReply s

/-- The allowed ready source of the lowest class (R50). -/
def selectSource (s : State) : Option Source := allSources.find? fun src => sourceAllowed s.seq.state src && sourceReady s src

/-- The attempt the selector starts (R50). -/
def selectAttempt (s : State) : Option Attempt :=
  match selectSource s with
  | none => none
  | some src => (buildFrame s src).map fun content => { source := src, content := content }

/-! ## The successful end of an own frame (R41, R51) -/

/-- The attempt on the line. A station that may not transmit has none (R49). -/
def liveAttempt (s : State) : Option Attempt := if transmits s.seq.state then s.line.attempt else none

/-- The end of any attempt: the line is let go and a new moment begins. -/
def attemptOver (s : State) : State := releaseLine (newMoment s)

/-- Both failure counts 0, and TRANSMIT raised, with OPERATOR_OWN for an OPERATOR frame (R41). -/
def frameSent (a : Attempt) (s : State) : State :=
  raise (if classOf a.content = .operator then classTransmit ||| classOperatorOwn else classTransmit)
    ((attemptOver s).setLine { (attemptOver s).line with failures := 0, mismatches := 0 })

/-- The station number field this station sends. -/
def sentField (s : State) : StationField := (ownField s).getD 0

/-- The successful end of the station's own JOIN (R94). A JOIN is sent in JOINING alone (R36, R93); in another state only the flag is cleared
(assumption 4). -/
def joinSent (s : State) : State :=
  if s.seq.state = .joining then
    if anyStale s then
      s.setSeq { s.seq with state := .syncing, joinPending := false, syncTimer := some (syncMs s.cfg) }
    else enterSynced (s.setSeq { s.seq with state := .syncing, joinPending := false, syncTimer := some (syncMs s.cfg) })
  else s.setSeq { s.seq with joinPending := false }

/-- The sender's own taking of its frame: its effects at the station's own consumers (R17, R19, R41) and the removal of the source's entry
(R51). A removal from the report queue frees a place, and reconciliation is tested (R124). -/
def takeOwn (content : FrameContent) (s : State) : State :=
  match content with
  | .point p w d =>
    reconcile ((takePoint (sentField s) p w d s).setScanner { s.scanner with queue := s.scanner.queue.tail })
  | .operator op g h d =>
    (takeOperator (sentField s) op g h d s).setPanel { s.panel with queue := s.panel.queue.tail }
  | .join _ _ => joinSent s
  | .start _ _ _ _ => s.setTransfer (advanceJob s.cfg s.transfer)
  | .data _ _ _ => s.setTransfer (advanceJob s.cfg s.transfer)
  | .presence _ _ _ => s.setTimers { s.timers with presencePending := false }
  | .query _ => s.setMembers { s.members with repairFlag := false, repairTimer := some (repairMs s.cfg) }
  | .reply _ _ _ => s.setResponder none

end Sys2Proof.Machine
end

