-- ==== Sys2Proof/Machine/Attempts.lean ====
section
/-! DEFINITION. The meanings of the commands about the station's own attempts and the faults it finds as a receiver (R37 to R46, R50). -/

namespace Sys2Proof.Machine

open Sys2Proof

/-- ATTEMPT_START (R35, R50): the idle gap is complete, and a station with no attempt on the line starts one. With no allowed source ready the
event does not arise (assumption 4). -/
def execAttemptStart (s : State) : Host.Outcome State Fault Refusal :=
  match s.line.attempt with
  | some _ => .next s
  | none =>
    match selectAttempt s with
    | some a => .next (s.setLine { s.line with attempt := some a, drive := .frame, awaitsGap := false })
    | none => .next s

/-- LOST_ARBITRATION (R37): neither count changes, and the source entry stays. -/
def execLostArbitration (s : State) : Host.Outcome State Fault Refusal :=
  match liveAttempt s with
  | none => .next s
  | some _ => .next (repairTest (attemptOver s))

/-- A failed attempt that does not halt the station: withdrawal at the sixteenth in a row (R43, R44). -/
def afterFailure (s : State) : State := if failureLimit ≤ s.line.failures then settle (enterWithdrawn s) else repairTest s

/-- ECHO_MISMATCH (R38, R43, R46), at the release of the fault mark that the sender drove from the bit after the mismatch (`senderLevel`): both
counts step, and the third mismatch in a row halts the station in place of a withdrawal. -/
def execEchoMismatch (s : State) : Host.Outcome State Fault Refusal :=
  match liveAttempt s with
  | none => .next s
  | some _ =>
    if mismatchLimit ≤ s.line.mismatches + 1 then
      .next
        (settle
          (enterHalted
            ((attemptOver s).setLine
              { (attemptOver s).line with failures := s.line.failures + 1, mismatches := s.line.mismatches + 1 })))
    else
      .next
        (afterFailure
          ((attemptOver s).setLine
            { (attemptOver s).line with failures := s.line.failures + 1, mismatches := s.line.mismatches + 1 }))

/-- ATTEMPT_VOIDED (R42, R43): the failure count steps, the mismatch count is set to 0. -/
def execAttemptVoided (s : State) : Host.Outcome State Fault Refusal :=
  match liveAttempt s with
  | none => .next s
  | some _ =>
    .next (afterFailure ((attemptOver s).setLine { (attemptOver s).line with failures := s.line.failures + 1, mismatches := 0 }))

/-- OWN_FRAME_SUCCESSFUL_END (R41, R51). -/
def execOwnFrameSuccessfulEnd (s : State) : Host.Outcome State Fault Refusal :=
  match liveAttempt s with
  | none => .next s
  | some a => .next (settle (repairTest (takeOwn a.content (frameSent a s))))

/-- How a receiver signals a fault (R39). -/
def signalOf : LineFault → Drive
  | .codingBreak => .faultMark
  | .lengthFault => .faultMark
  | .checkFault => .void
  | .delimiterFault => .void

/-- FAULTY_FRAME_RECEIVED (R35, R39): the fault is signalled, the frame discarded and one void driven counted. -/
def execFaultyFrameReceived (faulty : FaultyFrame) (s : State) : Host.Outcome State Fault Refusal :=
  .next
    (whenHeard faulty.gap
      (fun s =>
        repairTest
          ((listeningFrame s).setLine
            { (listeningFrame s).line with drive := signalOf faulty.fault, voidsDriven := stepCounter s.line.voidsDriven }))
      s)

/-- VOID_SEEN (R40): the frame reaches no consumer. A station that awaits an idle gap goes on awaiting it: the row carries no bit times, nothing but
the wait could change, and an idle gap comes ahead of the next frame too (R35, assumption 26). -/
def execVoidSeen (s : State) : Host.Outcome State Fault Refusal :=
  .next (whenHeard 0 (fun s => repairTest (listeningFrame s)) s)

end Sys2Proof.Machine
end

