-- ==== Sys2Proof/Machine/Frames.lean ====
section
/-! DEFINITION. The meanings of the received-frame commands (R16, R19, R36, R73 to R77, R110 to R112, R177 to R183, R186). A row names the
frame; what the frame does is read from its payload by the layout of its class, or it is malformed (R63, R64; assumption 3). -/

namespace Sys2Proof.Machine

open Sys2Proof

/-- POINT_FRAME (R16). -/
def execPointFrame (heading : FrameHeading) (payload : List Byte) (s : State) : Host.Outcome State Fault Refusal :=
  .next (frameEnds heading (takePayload .point heading.sender payload) s)

/-- OPERATOR_FRAME (R19). -/
def execOperatorFrame (heading : FrameHeading) (payload : List Byte) (s : State) : Host.Outcome State Fault Refusal :=
  .next (frameEnds heading (takePayload .operator heading.sender payload) s)

/-- JOIN_FRAME (R73, R95). -/
def execJoinFrame (heading : FrameHeading) (payload : List Byte) (s : State) : Host.Outcome State Fault Refusal :=
  .next (frameEnds heading (takePayload .join heading.sender payload) s)

/-- SNAPSHOT_START (R110). -/
def execSnapshotStart (heading : FrameHeading) (payload : List Byte) (s : State) : Host.Outcome State Fault Refusal :=
  .next (frameEnds heading (takePayload .snapshot heading.sender payload) s)

/-- SNAPSHOT_DATA (R111, R112). -/
def execSnapshotData (heading : FrameHeading) (payload : List Byte) (s : State) : Host.Outcome State Fault Refusal :=
  .next (frameEnds heading (takePayload .snapshot heading.sender payload) s)

/-- PRESENCE_FRAME (R74, R82, R83). -/
def execPresenceFrame (heading : FrameHeading) (payload : List Byte) (s : State) : Host.Outcome State Fault Refusal :=
  .next (frameEnds heading (takePayload .presence heading.sender payload) s)

/-- QUERY_STATUS (R178). -/
def execQueryStatus (heading : FrameHeading) (payload : List Byte) (s : State) : Host.Outcome State Fault Refusal :=
  .next (frameEnds heading (takePayload .query heading.sender payload) s)

/-- QUERY_MEMBERS (R178). -/
def execQueryMembers (heading : FrameHeading) (payload : List Byte) (s : State) : Host.Outcome State Fault Refusal :=
  .next (frameEnds heading (takePayload .query heading.sender payload) s)

/-- QUERY_REGION (R182). -/
def execQueryRegion (heading : FrameHeading) (payload : List Byte) (s : State) : Host.Outcome State Fault Refusal :=
  .next (frameEnds heading (takePayload .query heading.sender payload) s)

/-- QUERY_RESTART (R183). -/
def execQueryRestart (heading : FrameHeading) (payload : List Byte) (s : State) : Host.Outcome State Fault Refusal :=
  .next (frameEnds heading (takePayload .query heading.sender payload) s)

/-- REPLY_FRAME (R186). -/
def execReplyFrame (heading : FrameHeading) (payload : List Byte) (s : State) : Host.Outcome State Fault Refusal :=
  .next (frameEnds heading (takePayload .reply heading.sender payload) s)

/-- UNASSIGNED_FRAME (R36): discarded. It reaches no consumer, counts nowhere, and is no sign of a duplicate number. -/
def execUnassignedFrame (heading : FrameHeading) (_payload : List Byte) (s : State) : Host.Outcome State Fault Refusal :=
  .next (whenHeard heading.gap (fun s => repairTest (listeningFrame s)) s)

end Sys2Proof.Machine
end

