-- ==== Sys2Proof/Machine/Inputs.lean ====
section
/-! DEFINITION. The meanings of the field-input and button commands (R115 to R119, R131 to R138, R142), and the sampling they share. -/

namespace Sys2Proof.Machine

open Sys2Proof

/-! ## Field inputs -/

/-- A field input pin comes to stand so. -/
def setFieldPin (l : InputLine) (pin : PinLevel) (s : State) : State :=
  s.setPins { s.pins with field := s.pins.field.set l pin }

/-- Replace a line's debouncer. -/
def setLineDebouncer (l : InputLine) (d : Debouncer Level) (s : State) : State :=
  s.setScanner { s.scanner with lines := s.scanner.lines.set l { s.scanner.lines[l] with debouncer := d } }

/-- A line takes the debouncer a sample or an expiry leaves: a change of its stable level raises INPUT and tests reconciliation (R119). -/
def lineDebounced (l : InputLine) (d : Debouncer Level) (s : State) : State :=
  if d.stable = s.scanner.lines[l].debouncer.stable then setLineDebouncer l d s
  else reconcile (raise classInput (setLineDebouncer l d s))

/-- A sample of a line whose contact reads `c` (R116, R118). A line is sampled only while the scanner runs (R117) and only when it is
scanned (R115). -/
def sampleLine (l : InputLine) (c : Contact) (s : State) : State :=
  match pointOfLine s.cfg l with
  | none => s
  | some p =>
    if panelRuns s.seq.state then
      settle
        (lineDebounced l
          (takeSample s.cfg.points[p].debounceMs (levelOf s.cfg.points[p].abnormalWhenClosed c) s.scanner.lines[l].debouncer)
          (newMoment s))
    else s

/-- FIELD_INPUT_CHANGE (R116, R118, R201): the pin stands so, and the sample of its contact is taken. -/
def execFieldInputChange (line : InputLine) (pin : PinLevel) (s : State) : Host.Outcome State Fault Refusal :=
  .next (sampleLine line (contactRead pin) (setFieldPin line pin s))

/-- The contact reading that stands for a level under a polarity (R116). -/
def contactOf (abnormalWhenClosed : Bool) (level : Level) : Contact :=
  match level, abnormalWhenClosed with
  | .abnormal, true => .closed
  | .abnormal, false => .opened
  | .normal, true => .opened
  | .normal, false => .closed

/-- INPUT_SETTLING_ABANDONED (R118): a SETTLING line's sample is back at the stable level; at the instant of the timer's expiry the table's last row
holds. The pin is as a contact to ground leaves it (assumption 14). On a line that is not SETTLING the event does not arise (assumption 4). -/
def execInputSettlingAbandoned (line : InputLine) (s : State) : Host.Outcome State Fault Refusal :=
  match pointOfLine s.cfg line, s.scanner.lines[line].debouncer.settling with
  | some p, some _ =>
    if panelRuns s.seq.state then
      .next
        (sampleLine line (contactOf s.cfg.points[p].abnormalWhenClosed s.scanner.lines[line].debouncer.stable)
          (setFieldPin line (contactPin (contactOf s.cfg.points[p].abnormalWhenClosed s.scanner.lines[line].debouncer.stable)) s))
    else .next s
  | _, _ => .next s

/-- INPUT_SETTLING_EXPIRY (R118, R119). On a line whose settling timer has not run out, or while the scanner does not run (R117), the event
does not arise (assumption 4). -/
def execInputSettlingExpiry (line : InputLine) (s : State) : Host.Outcome State Fault Refusal :=
  if s.scanner.lines[line].debouncer.settling = some 0 ∧ panelRuns s.seq.state = true ∧ isScanned s.cfg line = true then
    .next (settle (lineDebounced line (settleLevel s.scanner.lines[line].debouncer) (newMoment s)))
  else .next s

/-! ## Buttons -/

/-- The debouncer of a button (R131). -/
def debouncerOf (panel : OperatorInterface) (b : Button) : Debouncer ButtonLevel :=
  match b with
  | .ack => panel.ack
  | .silence => panel.silence
  | .reset => panel.reset
  | .test => panel.test

/-- Replace the debouncer of a button. -/
def withDebouncer (panel : OperatorInterface) (b : Button) (d : Debouncer ButtonLevel) : OperatorInterface :=
  match b with
  | .ack => { panel with ack := d }
  | .silence => { panel with silence := d }
  | .reset => { panel with reset := d }
  | .test => { panel with test := d }

/-- A button's pin. -/
def buttonPin (pins : InputPins) (b : Button) : PinLevel :=
  match b with
  | .ack => pins.ack
  | .silence => pins.silence
  | .reset => pins.reset
  | .test => pins.test

/-- A button's pin comes to stand so. -/
def setButtonPin (b : Button) (pin : PinLevel) (s : State) : State :=
  match b with
  | .ack => s.setPins { s.pins with ack := pin }
  | .silence => s.setPins { s.pins with silence := pin }
  | .reset => s.setPins { s.pins with reset := pin }
  | .test => s.setPins { s.pins with test := pin }

/-- A press of an operation button: accepted while SYNCED with room in the operator queue, else discarded and counted (R136). The horizon of
an ACK is the order count at the press; of SILENCE and RESET it is 0 (R137). -/
def pressOperation (op : Operation) (s : State) : State :=
  if s.seq.state = .synced ∧ s.panel.queue.length < operatorCapacity then
    s.setPanel
      { s.panel with
        queue :=
          s.panel.queue
            ++ [{ operation := op, groups := s.cfg.controlSet, horizon := if op = .ack then s.seq.orderCount else 0 }] }
  else s.setPanel { s.panel with pressDrops := stepCounter s.panel.pressDrops }

/-- TEST held: the lamp test begins from IDLE (R142, R170). -/
def lampTestHeld (s : State) : State :=
  match s.lamp.test with
  | .idle => s.setLamp { s.lamp with test := .active lampTestMs }
  | .active _ => s
  | .timedOut => s

/-- TEST released: the lamp test ends (R142, R170). -/
def lampTestReleased (s : State) : State := s.setLamp { s.lamp with test := .idle }

/-- A press (R133): BUTTON, and then the operator queue or the lamp driver. -/
def press (b : Button) (s : State) : State :=
  match b with
  | .ack => pressOperation .ack (raise classButton s)
  | .silence => pressOperation .silence (raise classButton s)
  | .reset => pressOperation .reset (raise classButton s)
  | .test => lampTestHeld (raise classButton s)

/-- A release (R133): it raises nothing, and ends the lamp test if the button is TEST. -/
def release (b : Button) (s : State) : State :=
  match b with
  | .ack => s
  | .silence => s
  | .reset => s
  | .test => lampTestReleased s

/-- Replace a button's debouncer in the state. -/
def setButtonDebouncer (b : Button) (d : Debouncer ButtonLevel) (s : State) : State := s.setPanel (withDebouncer s.panel b d)

/-- A button takes the debouncer a sample or an expiry leaves: a change of its stable level is a press or a release (R133). -/
def buttonDebounced (b : Button) (d : Debouncer ButtonLevel) (s : State) : State :=
  if d.stable = (debouncerOf s.panel b).stable then setButtonDebouncer b d s
  else
    match d.stable with
    | .pressed => press b (setButtonDebouncer b d s)
    | .released => release b (setButtonDebouncer b d s)

/-- A sample of a button (R131, R132). -/
def sampleButton (b : Button) (c : Contact) (s : State) : State :=
  if panelRuns s.seq.state then
    settle (buttonDebounced b (takeSample buttonSettlingMs (buttonLevelOf c) (debouncerOf s.panel b)) (newMoment s))
  else s

/-- BUTTON_INPUT_CHANGE (R132, R201): the pin stands so, and the sample of its contact is taken. -/
def execButtonInputChange (button : Button) (pin : PinLevel) (s : State) : Host.Outcome State Fault Refusal :=
  .next (sampleButton button (contactRead pin) (setButtonPin button pin s))

/-- The contact reading of a button level (R131). -/
def buttonContactOf : ButtonLevel → Contact
  | .pressed => .closed
  | .released => .opened

/-- BUTTON_SETTLING_ABANDONED (R132). The pin is as a contact to ground leaves it (assumption 14). On a button that is not SETTLING the event does
not arise (assumption 4). -/
def execButtonSettlingAbandoned (button : Button) (s : State) : Host.Outcome State Fault Refusal :=
  match (debouncerOf s.panel button).settling with
  | none => .next s
  | some _ =>
    if panelRuns s.seq.state then
      .next
        (sampleButton button (buttonContactOf (debouncerOf s.panel button).stable)
          (setButtonPin button (contactPin (buttonContactOf (debouncerOf s.panel button).stable)) s))
    else .next s

/-- BUTTON_SETTLING_EXPIRY (R132, R133). On a button whose settling timer has not run out, or while the debouncers do not run (R131), the event
does not arise (assumption 4). -/
def execButtonSettlingExpiry (button : Button) (s : State) : Host.Outcome State Fault Refusal :=
  if (debouncerOf s.panel button).settling = some 0 ∧ panelRuns s.seq.state = true then
    .next (settle (buttonDebounced button (settleLevel (debouncerOf s.panel button)) (newMoment s)))
  else .next s

end Sys2Proof.Machine
end

