-- ==== Sys2Proof/Machine/Loading.lean ====
section
/-! DEFINITION. The meanings of the start-up commands: hardware reset, its release, the image read and the ten checks (chapter 11). -/

namespace Sys2Proof.Machine

open Sys2Proof

/-- The reset is held by one source or the other (R187, R188). The supply holds it from below 2.7 V. -/
def holdBy (source : ResetSource) (h : ResetHold) : ResetHold :=
  match source with
  | .supply => { h with bySupply := true, powered := false }
  | .pin => { h with byPin := true }

/-- A source lets the reset go (R188). The supply does so once it has stood at or above 2.8 V for 10 ms. -/
def letGo (source : ResetSource) (h : ResetHold) : ResetHold :=
  match source with
  | .supply => { h with bySupply := false, powered := true }
  | .pin => { h with byPin := false }

/-- The block values of hardware reset (the table of section 11.1). The point table stays as the last load left it and is not read in OFF,
and the input pins are what outside drives them to (assumptions 12, 14); every other item takes its reset value. DESIGN CHOICE (assumption 27):
a source that begins to hold the reset while the other already holds it takes the block values a second time, so the flash cycle and the matrix
scan start again; R188 makes one reset of the two and does not say whether the free-running cycles restart. -/
def takeHardwareReset (source : ResetSource) (s : State) : State :=
  { State.reset with hold := holdBy source s.hold, pins := s.pins, points := s.points, pending := s.pending }

/-- The supply comes to stand at or above 2.7 V (R187, R201): while the power-on reset is held, the part drives its pins from then on. At a
station that runs it changes nothing (R188). -/
def supplyRisen (s : State) : State := if s.hold.bySupply then s.setHold { s.hold with powered := true } else s

/-- HARDWARE_RESET (R187, R188): a supply below 2.7 V resets, and a low RESETn of 10 µs or longer; a shorter one has no effect. -/
def execHardwareReset (cause : ResetCause) (s : State) : Host.Outcome State Fault Refusal :=
  match cause with
  | .supply millivolts => if millivolts < 2700 then .next (takeHardwareReset .supply s) else .next (supplyRisen s)
  | .pin lowMicros => if 10 ≤ lowMicros then .next (takeHardwareReset .pin s) else .next s

/-- The load begins (R189, R190): the straps are sampled once, and the image check result starts at FFFFh. -/
def beginReading (s : State) : State :=
  s.setLoader { s.loader with state := .reading, straps := strapsRead s.pins, image := [], checkResult := 0xFFFF }

/-- A source ends its hold of the reset, and the load begins when neither holds it any more (R188, R190). -/
def released (source : ResetSource) (s : State) : State :=
  if (letGo source s.hold).bySupply || (letGo source s.hold).byPin then s.setHold (letGo source s.hold)
  else beginReading (s.setHold (letGo source s.hold))

/-- The source whose hold ends: the supply's once it has stood at or above 2.8 V for 10 ms, that of RESETn as it goes high (R188). -/
def releasedSource (cause : ReleaseCause) : Option ResetSource :=
  match cause with
  | .supply millivolts stoodMs => if 2800 ≤ millivolts ∧ 10 ≤ stoodMs then some .supply else none
  | .pin => some .pin

/-- RESET_RELEASE (R188, R190, R202): the strap pins are as given from then on, and are sampled if the release begins the load. While the supply has
not stood long or high enough, its hold goes on (R188). With the loader not in HELD no reset is held and the event does not arise (assumption 4). -/
def execResetRelease (cause : ReleaseCause) (stn : Vector PinLevel 5) (rate : Vector PinLevel 2) (s : State) :
    Host.Outcome State Fault Refusal :=
  match releasedSource cause with
  | none => .next s
  | some source =>
    if s.loader.state = .held then .next (released source (s.setPins { s.pins with stn := stn, rate := rate })) else .next s

/-- IMAGE_READ_COMPLETE (R189, R191): the 1222 bytes stand read, and the image check result is complete. -/
def execImageReadComplete (mdi : List Bool) (s : State) : Host.Outcome State Fault Refusal :=
  if s.loader.state = .reading then
    .next (s.setLoader { s.loader with state := .checking, image := clockedIn mdi, checkResult := imageCheck (clockedIn mdi) })
  else .next s

/-- The first sample of a line, taken at the entry to LISTENING (R128). -/
def firstSample (cfg : Configuration) (pins : InputPins) (l : InputLine) : ScannedLine :=
  match pointOfLine cfg l with
  | none => restingLine
  | some p =>
    { restingLine with
      debouncer := takeSample cfg.points[p].debounceMs (levelOf cfg.points[p].abnormalWhenClosed (contactRead pins.field[l])) restingLine.debouncer }

/-- The first sample of a button (R134). -/
def firstButtonSample (pins : InputPins) (b : Button) : Debouncer ButtonLevel :=
  takeSample buttonSettlingMs (buttonLevelOf (contactRead (buttonPin pins b))) restingButton

/-- A line whose stable level has left normal at its first sample, its debounce time being 0 (R118, R119). -/
def firstSampleChanges (cfg : Configuration) (pins : InputPins) : Bool :=
  allLines.any fun l => (firstSample cfg pins l).debouncer.stable != .normal

/-- Acceptance (R198): the digest and the configuration are fixed, the blocks take their starting values (R26, R69, R128, R134) with the
first samples (assumption 25), and the station enters LISTENING with reason HARDWARE_RESET (R90, R91), to receive after a full idle gap
(R35, R52). -/
def acceptImage (cfg : Configuration) (s : State) : State :=
  settle
    (raise (if firstSampleChanges cfg s.pins then classInput else 0)
      (enterListening .hardwareReset
        { awaitGap (newMoment s) with
          loader := { s.loader with state := .accepted, image := [], digest := some s.loader.checkResult }
          cfg := cfg
          points := startingRecords cfg
          members := clearedMembers s.members
          scanner := { lines := tabulate (firstSample cfg s.pins), queue := [] }
          panel :=
            { s.panel with
              ack := firstButtonSample s.pins .ack
              silence := firstButtonSample s.pins .silence
              reset := firstButtonSample s.pins .reset
              test := firstButtonSample s.pins .test } }))

/-- Refusal (R197): HALTED with configuration fault, no configuration taken, every record QUIET (R26), nothing usable kept. -/
def refuseImage (s : State) : State :=
  { s with
    loader := { s.loader with state := .refused, image := [], digest := none }
    cfg := blankConfiguration
    points := Vector.replicate 256 quietRecord
    seq := { s.seq with state := .halted } }

/-- LOAD_CHECKS_COMPLETE (R192): the first check that fails refuses the image, else it is accepted. Outside CHECKING the event does not
arise (assumption 4). -/
def execLoadChecksComplete (s : State) : Host.Outcome State Fault Refusal :=
  if s.loader.state = .checking ∧ s.seq.state = .off then
    match firstFailedCheck s.loader.checkResult s.loader.image s.loader.straps with
    | some _ => .next (refuseImage s)
    | none => .next (acceptImage (configurationOf s.loader.image s.loader.straps) s)
  else .next s

end Sys2Proof.Machine
end

