-- ==== Sys2Proof/Machine/TimerEvents.lean ====
section
/-! DEFINITION. The meanings of the timer commands (R45, R78, R86, R92, R96, R153, R155, R170). A timer that is
stopped, or that something has loaded again since it ran out, has no expiry: the command leaves the state as it is (R154, assumption 4). -/

namespace Sys2Proof.Machine

open Sys2Proof

/-- LISTEN_TIMER_EXPIRY (R92): JOINING, with the JOIN pending flag set; T0 is armed as the moment is settled. -/
def execListenTimerExpiry (s : State) : Host.Outcome State Fault Refusal :=
  if s.seq.state = .listening ∧ s.seq.listenTimer = some 0 then
    .next (settle ((newMoment s).setSeq { s.seq with state := .joining, listenTimer := none, joinPending := true }))
  else .next s

/-- SYNC_TIMER_EXPIRY (R96): SYNCED, even with entries still STALE. -/
def execSyncTimerExpiry (s : State) : Host.Outcome State Fault Refusal :=
  if s.seq.state = .syncing ∧ s.seq.syncTimer = some 0 then .next (settle (repairTest (enterSynced (newMoment s)))) else .next s

/-- HOLD_OFF_EXPIRY (R45): LISTENING with reason AFTER_WITHDRAWAL, to receive after a full idle gap (R35). -/
def execHoldOffExpiry (s : State) : Host.Outcome State Fault Refusal :=
  if s.seq.state = .withdrawn ∧ s.line.holdOff = some 0 then
    .next (settle (enterListening .afterWithdrawal (awaitGap ((newMoment s).setLine { s.line with holdOff := none }))))
  else .next s

/-- ABSENT_TIMEOUT (R78): an entry whose age stands at 4P becomes ABSENT with its last digest kept, its points LOST and its context closed. A
frame that came first has reset the age, and the timeout does not happen. -/
def execAbsentTimeout (station : Station) (s : State) : Host.Outcome State Fault Refusal :=
  if receives s.seq.state = true ∧ s.cfg.self ≠ some station ∧ s.members.entries[station].state ≠ .absent
      ∧ absentMs s.cfg ≤ s.members.entries[station].ageMs then
    .next
      (settleMembership
        (moveEntry station { state := .absent, ageMs := 0, lastDigest := s.members.entries[station].lastDigest } (newMoment s)))
  else .next s

/-- REPAIR_TIMER_EXPIRY (R86): the timer stops and the repair test is made again. -/
def execRepairTimerExpiry (s : State) : Host.Outcome State Fault Refusal :=
  if s.members.repairTimer = some 0 then .next (repairTest ((newMoment s).setMembers { s.members with repairTimer := none })) else .next s

/-- T0_PRESENCE_EXPIRY (R155): the PRESENCE pending flag is set, and T0 counts again from P. A successful end taken first has reloaded the
count, and the expiry does not happen (R156). -/
def execT0PresenceExpiry (s : State) : Host.Outcome State Fault Refusal :=
  if s.timers.t0 = .counting 0 then
    .next ((newMoment s).setTimers { s.timers with t0 := .counting s.cfg.presenceMs, presencePending := true })
  else .next s

/-- The state of one of T1 to T3. -/
def timerOf (timers : ActivityTimers) (t : ActivityTimer) : TimerState :=
  match t with
  | .t1 => timers.t1
  | .t2 => timers.t2
  | .t3 => timers.t3

/-- Replace the state of one of T1 to T3. -/
def withTimer (timers : ActivityTimers) (t : ActivityTimer) (x : TimerState) : ActivityTimers :=
  match t with
  | .t1 => { timers with t1 := x }
  | .t2 => { timers with t2 := x }
  | .t3 => { timers with t3 := x }

/-- ACTIVITY_TIMER_EXPIRY (R153): the timer is EXPIRED and its effect in force: DIM (R157), ESC (R159) or the horn mute (R160). A masked
activity taken first has reloaded the count, and the expiry does not happen (R154). -/
def execActivityTimerExpiry (timer : ActivityTimer) (s : State) : Host.Outcome State Fault Refusal :=
  if timerOf s.timers timer = .counting 0 then .next (settleHorn ((newMoment s).setTimers (withTimer s.timers timer .expired)))
  else .next s

/-- LAMP_TEST_TIMEOUT (R170): TIMED_OUT. -/
def execLampTestTimeout (s : State) : Host.Outcome State Fault Refusal :=
  if s.lamp.test = .active 0 then .next ((newMoment s).setLamp { s.lamp with test := .timedOut }) else .next s

end Sys2Proof.Machine
end

