-- ==== Sys2Proof/Machine/Dispatch.lean ====
section
/-! DEFINITION. What each command does: one arm for each row of spec/opcode_table.json. -/

namespace Sys2Proof.Machine

open Sys2Proof

/-- The effect of a command on everything but the queue. -/
def exec (i : Instr) (s : State) : Host.Outcome State Fault Refusal :=
  match i with
  | .hardwareReset cause => Sys2Proof.Machine.execHardwareReset cause s
  | .resetRelease cause stn rate => Sys2Proof.Machine.execResetRelease cause stn rate s
  | .imageReadComplete mdi => Sys2Proof.Machine.execImageReadComplete mdi s
  | .loadChecksComplete => Sys2Proof.Machine.execLoadChecksComplete s
  | .attemptStart => Sys2Proof.Machine.execAttemptStart s
  | .lostArbitration => Sys2Proof.Machine.execLostArbitration s
  | .echoMismatch => Sys2Proof.Machine.execEchoMismatch s
  | .attemptVoided => Sys2Proof.Machine.execAttemptVoided s
  | .ownFrameSuccessfulEnd => Sys2Proof.Machine.execOwnFrameSuccessfulEnd s
  | .faultyFrameReceived faulty => Sys2Proof.Machine.execFaultyFrameReceived faulty s
  | .voidSeen => Sys2Proof.Machine.execVoidSeen s
  | .pointFrame heading payload => Sys2Proof.Machine.execPointFrame heading payload s
  | .operatorFrame heading payload => Sys2Proof.Machine.execOperatorFrame heading payload s
  | .joinFrame heading payload => Sys2Proof.Machine.execJoinFrame heading payload s
  | .snapshotStart heading payload => Sys2Proof.Machine.execSnapshotStart heading payload s
  | .snapshotData heading payload => Sys2Proof.Machine.execSnapshotData heading payload s
  | .presenceFrame heading payload => Sys2Proof.Machine.execPresenceFrame heading payload s
  | .queryStatus heading payload => Sys2Proof.Machine.execQueryStatus heading payload s
  | .queryMembers heading payload => Sys2Proof.Machine.execQueryMembers heading payload s
  | .queryRegion heading payload => Sys2Proof.Machine.execQueryRegion heading payload s
  | .queryRestart heading payload => Sys2Proof.Machine.execQueryRestart heading payload s
  | .replyFrame heading payload => Sys2Proof.Machine.execReplyFrame heading payload s
  | .unassignedFrame heading payload => Sys2Proof.Machine.execUnassignedFrame heading payload s
  | .listenTimerExpiry => Sys2Proof.Machine.execListenTimerExpiry s
  | .syncTimerExpiry => Sys2Proof.Machine.execSyncTimerExpiry s
  | .holdOffExpiry => Sys2Proof.Machine.execHoldOffExpiry s
  | .absentTimeout station => Sys2Proof.Machine.execAbsentTimeout station s
  | .repairTimerExpiry => Sys2Proof.Machine.execRepairTimerExpiry s
  | .t0PresenceExpiry => Sys2Proof.Machine.execT0PresenceExpiry s
  | .activityTimerExpiry timer => Sys2Proof.Machine.execActivityTimerExpiry timer s
  | .lampTestTimeout => Sys2Proof.Machine.execLampTestTimeout s
  | .fieldInputChange line pin => Sys2Proof.Machine.execFieldInputChange line pin s
  | .inputSettlingExpiry line => Sys2Proof.Machine.execInputSettlingExpiry line s
  | .buttonInputChange button pin => Sys2Proof.Machine.execButtonInputChange button pin s
  | .buttonSettlingExpiry button => Sys2Proof.Machine.execButtonSettlingExpiry button s
  | .inputSettlingAbandoned line => Sys2Proof.Machine.execInputSettlingAbandoned line s
  | .buttonSettlingAbandoned button => Sys2Proof.Machine.execButtonSettlingAbandoned button s

end Sys2Proof.Machine
end

