-- ==== Sys2Proof/Machine/Outputs.lean ====
section
/-! DEFINITION. The outputs, each read from the state as it stands (R31, R143 to R148, R159, R164 to R175, R201). They hold no state of
their own but what the horn and the lamp driver hold. -/

namespace Sys2Proof.Machine

open Sys2Proof

/-! ## Horn, ALM, ESC, FLT -/

/-- The horn sounds: without break, or for the first 0.5 s of each 4 s (R144, R145). -/
def hornSounds (s : State) : Bool :=
  match s.panel.horn with
  | .silent => false
  | .continuous => true
  | .intermittent => s.panel.hornPhaseMs < 500

/-- ALM (R146). -/
def almAsserted (s : State) : Bool :=
  panelRuns s.seq.state && (0 < alertCount s.cfg s.points || 0 < ringbackCount s.cfg s.points)

/-- ESC: T2's effect (R159). -/
def escAsserted (s : State) : Bool := s.timers.t2 == .expired

/-- FLT (R147). -/
def fltAsserted (s : State) : Bool :=
  s.seq.state == .off || s.seq.state == .halted || s.seq.state == .withdrawn || 0 < lostCount s.cfg s.points

/-! ## The lamp matrix -/

/-- Lamp patterns (R166). -/
inductive LampPattern where
  | dark | steady | fast | double | slow | lost
  deriving DecidableEq, Repr

/-- A position lies within the window's rows and columns (R164, R170). -/
def inDisplay (w : DisplayWindow) (r c : Fin 8) : Bool := r.val < w.rows && c.val < w.columns

/-- The point a position shows (R164). -/
def shownPoint (cfg : Configuration) (r c : Fin 8) : Option PointIndex :=
  match cfg.display with
  | none => none
  | some w =>
    if h : w.originRow + r.val ≤ 15 ∧ w.originColumn + c.val ≤ 15 then
      if inDisplay w r c then some ⟨(w.originRow + r.val) * 16 + (w.originColumn + c.val), by omega⟩ else none
    else none

/-- The pattern of a record (R166). -/
def patternOf (r : PointRecord) : LampPattern :=
  match r.state with
  | .quiet => .dark
  | .alert => if r.firstOut then .double else .fast
  | .returned => .fast
  | .held => .steady
  | .ringback => .slow
  | .lost => .lost

/-- The pattern of a point: unused points are DARK (R166). -/
def pointPattern (s : State) (p : PointIndex) : LampPattern := if isUsed s.cfg p then patternOf s.points[p] else .dark

/-- A pattern is on at a phase of the flash cycle (R167). -/
def patternOn (pattern : LampPattern) (phaseMs : Nat) : Bool :=
  match pattern with
  | .dark => false
  | .steady => true
  | .fast => phaseMs % 500 < 250
  | .double => phaseMs % 1000 < 125 || (250 ≤ phaseMs % 1000 && phaseMs % 1000 < 375)
  | .slow => phaseMs % 2000 < 1000
  | .lost => phaseMs % 2000 < 125

/-- The lamp test is in force (R170, R172). -/
def lampTestActive (s : State) : Bool :=
  match s.lamp.test with
  | .active _ => panelRuns s.seq.state
  | .idle => false
  | .timedOut => false

/-- The pattern of the record a position shows; dark where it shows none (R164, R166). -/
def recordPattern (s : State) (r c : Fin 8) : LampPattern :=
  match shownPoint s.cfg r c with
  | some p => pointPattern s p
  | none => .dark

/-- The pattern a position shows (R164, R166, R170, R172). In OFF every position is unlit. -/
def positionPattern (s : State) (r c : Fin 8) : LampPattern :=
  match s.seq.state with
  | .off => .dark
  | .halted => .lost
  | .listening | .joining | .syncing | .synced | .withdrawn =>
    if lampTestActive s then
      match s.cfg.display with
      | some w => if inDisplay w r c then .steady else .dark
      | none => .dark
    else recordPattern s r c

/-- The matrix brightness: DIM while T1's effect is in force (R157, R169). -/
def brightness (s : State) : Brightness := if s.timers.t1 = .expired then .dim else .full

/-- The halt display or the lamp test overrides the patterns (R171, R172, R175). -/
def overridden (s : State) : Bool := s.seq.state == .halted || lampTestActive s

/-- The drive that stands: the brightness, but FULL in a lamp test and in HALTED (R169, R171, R172). -/
def standingDrive (s : State) : Brightness := if overridden s then .full else brightness s

/-- How long a lit position is driven in its 1 ms scan slot, in microseconds (R169). -/
def driveMicros : Brightness → Nat
  | .full => 1000
  | .dim => 250

/-- A position's pattern is on (R167). -/
def positionOn (s : State) (r c : Fin 8) : Bool := patternOn (positionPattern s r c) s.lamp.flashPhaseMs

/-- How long a position is driven in a scan slot that begins in this state, in microseconds (R169). -/
def litMicros (s : State) (r c : Fin 8) : Nat := if positionOn s r c then driveMicros (standingDrive s) else 0

/-- The start of a scan slot: it takes the columns whose records' patterns are on, and the brightness that stands (R169, R175). The halt display
and the lamp test are not taken with it: while they stand they override the slot. -/
def beginSlot (s : State) : State :=
  s.setLamp
    { s.lamp with
      slotLit := tabulate fun c => patternOn (recordPattern s s.lamp.scanRow c) s.lamp.flashPhaseMs
      slotDrive := brightness s }

/-! ## Pins (R201) -/

/-- An output pin: with the supply below 2.7 V the part drives no pin (R187, R201). -/
def pinLevel (s : State) (high : Bool) : PinLevel := if s.hold.powered then (if high then .high else .low) else .undriven

/-- ROWr is driven high through the scan slot of row r; low in OFF (R169, R201). -/
def rowPin (s : State) (r : Fin 8) : PinLevel := pinLevel s (s.seq.state != .off && s.lamp.scanRow == r)

/-- Position (r, c) of the selected row r is lit, `micros` into its slot (R169): while the halt display or the lamp test overrides, as it has it;
otherwise as the slot began; unlit in OFF (R172, R175). -/
def columnLit (s : State) (micros : Nat) (c : Fin 8) : Bool :=
  if s.seq.state = .off then false
  else if overridden s then micros < litMicros s s.lamp.scanRow c
  else s.lamp.slotLit[c] && micros < driveMicros s.lamp.slotDrive

/-- COLc is driven high while position (r, c) of the selected row r is lit (R201). -/
def columnPin (s : State) (micros : Nat) (c : Fin 8) : PinLevel := pinLevel s (columnLit s micros c)

/-- HORN is high while the horn sounds (R201). -/
def hornPin (s : State) : PinLevel := pinLevel s (hornSounds s)

/-- ALM is high while asserted (R201). -/
def almPin (s : State) : PinLevel := pinLevel s (almAsserted s)

/-- ESC is high while asserted (R201). -/
def escPin (s : State) : PinLevel := pinLevel s (escAsserted s)

/-- FLT is low while asserted (R201). -/
def fltPin (s : State) : PinLevel := pinLevel s (!fltAsserted s)

/-- MCS is low through the read transaction alone (R191, R199, R201). -/
def chipSelectPin (s : State) : PinLevel := pinLevel s (s.loader.state != .reading)

/-- The bytes sent on MDO at the start of the read transaction: the read command and the address 0 (R191). -/
def readCommandBytes : List Byte := [0x03, 0x00, 0x00]

/-- MCK, `halfPeriod` half clock periods into the read transaction: low but in the second half of each of its 9800 clock periods (R191, R201). R191
gives the clock 1 MHz, idle low and what each edge does. DESIGN CHOICE (assumption 31): each period is half low and then half high, the first of them
as MCS goes low. -/
def memoryClockPin (s : State) (halfPeriod : Nat) : PinLevel :=
  pinLevel s (s.loader.state == .reading && decide (halfPeriod < 2 * readPeriods) && halfPeriod % 2 == 1)

/-- MDO: low outside the 9800 clock periods of the transaction, and in its first 24 the read command and the address, most significant bit first;
`none` while the memory's bytes are clocked in, where the manual does not say what it is (R191, R201). -/
def memoryDataPin (s : State) (period : Nat) : Option PinLevel :=
  if s.loader.state = .reading ∧ period < readPeriods then ((readCommandBytes.flatMap byteBits)[period]?).map (pinLevel s)
  else some (pinLevel s false)

/-! ## The line (R31, R201) -/

/-- The arbitration field of the attempt on the line (R34, R53). -/
def attemptArbitration (s : State) (a : Attempt) : Byte := arbitrationField (classOf a.content) (sentField s)

/-- The bits of the attempt on the line (R34, R50). -/
def attemptBits (s : State) (a : Attempt) : List Bool := frameBits (classOf a.content) (sentField s) (buildPayload a.content)

/-- How the attempt on the line ends, by the readings of LRX since its start bit (R37, R38, R42). -/
def endOfAttempt (s : State) (a : Attempt) (lrx : List Bool) : AttemptEnd :=
  attemptEnd (attemptArbitration s a) (buildPayload a.content) lrx

/-- What the station leaves the line at (`true` is recessive), `k` bit times after it began to drive, LRX having read `lrx` since then: its frame,
until it loses arbitration or drives the fault mark of an echo mismatch; the two bits of a void; the eight of a receiver's fault mark (R31, R37,
R38, R39). -/
def drivenLevel (s : State) (lrx : List Bool) (k : Nat) : Bool :=
  match s.line.drive, s.line.attempt with
  | .recessive, _ => true
  | .frame, some a => senderLevel (attemptBits s a) (endOfAttempt s a lrx) k
  | .frame, none => true
  | .void, _ => decide (2 ≤ k)
  | .faultMark, _ => decide (8 ≤ k)

/-- LTX is high where the station leaves the line recessive (R201). -/
def ltxPin (s : State) (lrx : List Bool) (k : Nat) : PinLevel := pinLevel s (drivenLevel s lrx k)

/-- LRX, an input that follows the transceiver, reads high while the line is recessive: while neither this station nor any other (`others`) drives
it dominant (R31, R201, R202). What it reads reaches the station as the commands of `readLine` and `endOfAttempt`. -/
def lrxReadsHigh (s : State) (lrx : List Bool) (k : Nat) (others : Bool) : Bool := lineLevel (drivenLevel s lrx k) others

end Sys2Proof.Machine
end

