-- ==== Sys2Proof/Machine/Tick.lean ====
section
/-! DEFINITION. What a step does on an empty queue: one millisecond passes (assumption 6). Every running timer, age and phase moves by
1 ms, and the expiry commands that fall due are queued, to be taken by the next steps. -/

namespace Sys2Proof.Machine

open Sys2Proof

/-- A running timer loses 1 ms. -/
def countDown (t : Option Nat) : Option Nat := t.map (· - 1)

/-- A stopped or running timer reaches zero within this millisecond. -/
def dueTimer (t : Option Nat) : Bool :=
  match t with
  | some ms => ms ≤ 1
  | none => false

/-- A COUNTING timer loses 1 ms (R152). -/
def countDownTimer (t : TimerState) : TimerState :=
  match t with
  | .counting ms => .counting (ms - 1)
  | .idle => .idle
  | .expired => .expired

/-- A COUNTING timer's count reaches zero within this millisecond. -/
def dueCount (t : TimerState) : Bool :=
  match t with
  | .counting ms => ms ≤ 1
  | .idle => false
  | .expired => false

/-- The lamp-test timer loses 1 ms (R170). -/
def countDownTest (t : LampTest) : LampTest :=
  match t with
  | .active ms => .active (ms - 1)
  | .idle => .idle
  | .timedOut => .timedOut

/-- The lamp-test timer reaches zero within this millisecond. -/
def dueTest (t : LampTest) : Bool :=
  match t with
  | .active ms => ms ≤ 1
  | .idle => false
  | .timedOut => false

/-- An entry's age grows while it is not ABSENT, up to the absent timeout (R68, R72). -/
def olderEntry (cfg : Configuration) (e : MemberEntry) : MemberEntry :=
  if e.state = .absent then e else { e with ageMs := min (e.ageMs + 1) (absentMs cfg) }

/-- A debouncer's settling timer loses 1 ms. -/
def settlingDown {α : Type} (d : Debouncer α) : Debouncer α := { d with settling := countDown d.settling }

/-- The entry of a station reaches the absent timeout within this millisecond (R78). -/
def dueAbsent (s : State) (n : Station) : Bool :=
  s.cfg.self != some n && s.members.entries[n].state != .absent && absentMs s.cfg ≤ s.members.entries[n].ageMs + 1

/-- A line's settling timer expires within this millisecond. -/
def dueLine (s : State) (l : InputLine) : Bool := dueTimer s.scanner.lines[l].debouncer.settling

/-- The commands that fall due within this millisecond, in the order they are queued (assumption 6). -/
def dueCommands (s : State) : List Instr :=
  ([ActivityTimer.t1, .t2, .t3].filter fun t => dueCount (timerOf s.timers t)).map .activityTimerExpiry
    ++ (if dueTest s.lamp.test then [.lampTestTimeout] else [])
    ++ (if dueCount s.timers.t0 then [.t0PresenceExpiry] else [])
    ++ (if panelRuns s.seq.state then
          (allLines.filter (dueLine s)).map .inputSettlingExpiry
            ++ ([Button.ack, .silence, .reset, .test].filter fun b => dueTimer (debouncerOf s.panel b).settling).map .buttonSettlingExpiry
        else [])
    ++ (if receives s.seq.state then (allStations.filter (dueAbsent s)).map .absentTimeout else [])
    ++ (if dueTimer s.members.repairTimer then [.repairTimerExpiry] else [])
    ++ (if dueTimer s.seq.syncTimer then [.syncTimerExpiry] else [])
    ++ (if dueTimer s.seq.listenTimer then [.listenTimerExpiry] else [])
    ++ (if dueTimer s.line.holdOff then [.holdOffExpiry] else [])
    ++ (if s.loader.state = .checking then [.loadChecksComplete] else [])

/-- The scanner and debouncers over 1 ms: their settling timers run only while they run (R117, R131, R134). -/
def scannerOver (s : State) : InputScanner :=
  if panelRuns s.seq.state then
    { s.scanner with
      lines := tabulate fun l => { s.scanner.lines[l] with debouncer := settlingDown s.scanner.lines[l].debouncer } }
  else s.scanner

/-- The operator interface over 1 ms, with the horn's intermittent cycle of 4 s (R144). -/
def panelOver (s : State) : OperatorInterface :=
  { (if panelRuns s.seq.state then
      { s.panel with
        ack := settlingDown s.panel.ack, silence := settlingDown s.panel.silence, reset := settlingDown s.panel.reset
        test := settlingDown s.panel.test }
    else s.panel) with
    hornPhaseMs := if s.panel.horn = .intermittent then (s.panel.hornPhaseMs + 1) % 4000 else s.panel.hornPhaseMs }

/-- One millisecond, before the scan slot of the next matrix row begins. -/
def passMillisecond (s : State) : State :=
  { s with
    line :=
      { s.line with drive := if s.line.attempt.isSome then .frame else .recessive, holdOff := countDown s.line.holdOff }
    seq := { s.seq with listenTimer := countDown s.seq.listenTimer, syncTimer := countDown s.seq.syncTimer }
    members :=
      { s.members with
        entries := if receives s.seq.state then tabulate fun n => olderEntry s.cfg s.members.entries[n] else s.members.entries
        repairTimer := countDown s.members.repairTimer }
    scanner := scannerOver s
    panel := panelOver s
    timers :=
      { s.timers with
        t0 := countDownTimer s.timers.t0, t1 := countDownTimer s.timers.t1, t2 := countDownTimer s.timers.t2
        t3 := countDownTimer s.timers.t3 }
    lamp :=
      { s.lamp with
        flashPhaseMs := (s.lamp.flashPhaseMs + 1) % 2000, scanRow := s.lamp.scanRow + 1, test := countDownTest s.lamp.test }
    raised := 0
    pending := dueCommands s }

/-- One millisecond. -/
def tick (s : State) : State := beginSlot (passMillisecond s)

end Sys2Proof.Machine
end

