-- ==== Sys2Proof/Safety.lean ====
section
/-! DEFINITION. What the claims speak of: the lawful records of R2, the invariants the manual gives the machine, and the parts of the state
that a command leaves alone. -/

namespace Sys2Proof.Machine

open Sys2Proof

/-! ## Records -/

/-- A record whose other fields are as the table of R2 allows for its state. -/
def RecordLawful (r : PointRecord) : Prop :=
  match r.state with
  | .quiet => r.firstOut = false ∧ r.silenced = false ∧ r.alertMark = 0
  | .lost => r.firstOut = false ∧ r.silenced = false ∧ r.alertMark = 0
  | .ringback => r.silenced = false
  | .alert => True
  | .returned => True
  | .held => True

/-- Two used points of one group that both hold first_out are one point (R24). -/
def OneFlagPerGroup (cfg : Configuration) (records : Records) : Prop :=
  ∀ p q : PointIndex, isUsed cfg p = true → isUsed cfg q = true → cfg.points[p].group = cfg.points[q].group →
    records[p].firstOut = true → records[q].firstOut = true → p = q

/-! ## Two stations (R203) -/

/-- Two stations of one segment that are both SYNCED, hold the same digest and hold each other PRESENT (R203). The digest stands for the image, so
they hold one grid. -/
def Peers (s t : State) : Prop :=
  s.seq.state = .synced ∧ t.seq.state = .synced ∧ s.loader.digest.isSome = true ∧ s.loader.digest = t.loader.digest
    ∧ s.cfg.points = t.cfg.points
    ∧ ∃ m n : Station, m ≠ n ∧ s.cfg.self = some m ∧ t.cfg.self = some n ∧ s.members.entries[n].state = .present
        ∧ t.members.entries[m].state = .present

/-- When both hold a valid order count, the two counts are equal (R203). -/
def SameCount (s t : State) : Prop :=
  s.seq.countValid = true → t.seq.countValid = true → s.seq.orderCount = t.seq.orderCount

/-- The station holds no used point of the group LOST. -/
def GroupKnown (g : Group) (s : State) : Prop :=
  ∀ q : PointIndex, isUsed s.cfg q = true → s.cfg.points[q].group = g → s.points[q].state ≠ .lost

/-- Equal records for every used point LOST at neither, but for the first_out flags of a group of which one of the two holds some point LOST
(R25, R203). -/
def SameRecords (s t : State) : Prop :=
  ∀ p : PointIndex, isUsed s.cfg p = true → s.points[p].state ≠ .lost → t.points[p].state ≠ .lost →
    unflag s.points[p] = unflag t.points[p]
      ∧ (GroupKnown s.cfg.points[p].group s → GroupKnown s.cfg.points[p].group t → s.points[p] = t.points[p])

/-- Two stations agree as R203 states. -/
def StationsAgree (s t : State) : Prop := Peers s t → SameCount s t ∧ SameRecords s t

/-! ## Invariants of the point and membership tables -/

/-- R24: no group ever has more than one point with first_out set. -/
def FirstOutInv (s : State) : Prop := OneFlagPerGroup s.cfg s.points

/-- R5, R21: a station's own points never become LOST at that station. -/
def OwnKnownInv (s : State) : Prop := ∀ p : PointIndex, isOwn s.cfg p = true → s.points[p].state ≠ .lost

/-- R4, R26: outside OFF, unused points are QUIET with every other field 0 and clear. -/
def UnusedQuietInv (s : State) : Prop :=
  s.seq.state ≠ .off → ∀ p : PointIndex, isUsed s.cfg p = false → s.points[p] = quietRecord

/-- The membership state stands for a lost station (R79). -/
def isLoss (m : MemberState) : Bool := m == .absent || m == .mismatch

/-- R21, R79: every point of another station held ABSENT or MISMATCH is LOST; and no context is open for such a station (R76), nor for
any in OFF (R187). -/
def LossInv (s : State) : Prop :=
  (∀ (p : PointIndex) (n : Station), s.cfg.points[p].owner = some n → s.cfg.self ≠ some n →
      isLoss s.members.entries[n].state = true → s.points[p].state = .lost)
    ∧ (∀ n : Station, s.transfer.contexts[n].isSome = true → isLoss s.members.entries[n].state = false)
    ∧ (s.seq.state = .off → ∀ n : Station, s.transfer.contexts[n] = none)

/-! ## Invariants of the queues -/

/-- R121, R122, R127: the report queue holds at most 24 entries, and while SYNCED with room in it no line is unreported. -/
def ReportInv (s : State) : Prop :=
  s.scanner.queue.length ≤ reportCapacity
    ∧ (s.seq.state = .synced → s.scanner.queue.length < reportCapacity → unreportedCount s.cfg s.scanner = 0)

/-- R139, R141: the operator queue holds at most 4 entries, and is empty but in SYNCED and HALTED. -/
def OperatorInv (s : State) : Prop :=
  s.panel.queue.length ≤ operatorCapacity ∧ (s.seq.state ≠ .synced → s.seq.state ≠ .halted → s.panel.queue = [])

/-- The level reached when reports are applied in order to a level, each of which must move it; `none` when one does not (R123). -/
def levelAfter : Level → List ReportEvent → Option Level
  | level, [] => some level
  | level, e :: rest => if levelOfReport e = level then none else levelAfter (levelOfReport e) rest

/-- The events queued for a line, head first. -/
def eventsOf (scanner : InputScanner) (l : InputLine) : List ReportEvent :=
  (scanner.queue.filter (·.line == l)).map (·.event)

/-- The POINT frame on the line, if any, carries what its queue entry reports: the entry is the head, the point is the entry's, the digest is
the station's own, and the record carried stands for the level reported (R15, R17, R124). -/
def PointAttemptFits (s : State) : Prop :=
  ∀ (a : Attempt) (p : PointIndex) (w : WireRecord) (d : Word), s.line.attempt = some a → a.content = .point p w d →
    s.loader.digest = some d
      ∧ ∃ (e : ReportEntry) (rest : List ReportEntry) (r : PointRecord),
          s.scanner.queue = e :: rest ∧ pointOfLine s.cfg e.line = some p ∧ recordOfWire w = some r
            ∧ impliedLevel r.state = some (levelOfReport e.event)

/-- R123: for every scanned line, each queued entry moves the level it is applied to, and together they lead from the implied level of the
line's point to the line's reported level. The configuration and the digest that the frames need are held outside OFF (R189, R199). -/
def ReportChainInv (s : State) : Prop :=
  (∀ (l : InputLine) (p : PointIndex), pointOfLine s.cfg l = some p →
      ∃ level, impliedLevel s.points[p].state = some level
        ∧ levelAfter level (eventsOf s.scanner l) = some s.scanner.lines[l].reported)
    ∧ PointAttemptFits s
    ∧ (∀ p : PointIndex, isOwn s.cfg p = true → s.loader.digest.isSome = true)
    ∧ (s.seq.state = .off → s.line.attempt = none)
    ∧ OwnKnownInv s

/-! ## Invariants of the line controller and the sequencer -/

/-- R43, R46: the consecutive failure count is at most 16 and the duplicate-mismatch count at most 3, and neither stands at its limit but in
HALTED. -/
def FailureInv (s : State) : Prop :=
  s.line.failures ≤ failureLimit ∧ s.line.mismatches ≤ mismatchLimit
    ∧ (s.seq.state ≠ .halted → s.line.failures < failureLimit ∧ s.line.mismatches < mismatchLimit)

/-- R42, R49: an attempt stands on the line only in a state that may transmit; outside the receiving states the line is left recessive
(R31). A station that has seen no idle gap since it began to receive drives nothing either (R35). -/
def AttemptInv (s : State) : Prop :=
  (s.line.attempt.isSome = true → transmits s.seq.state = true)
    ∧ (receives s.seq.state = false → s.line.drive = .recessive)
    ∧ (s.line.awaitsGap = true → s.line.attempt = none ∧ s.line.drive = .recessive)

/-- R89, R91: the timers and flags of the sequencer fit its state: the listen timer runs in LISTENING alone, the sync timer in SYNCING alone,
the hold-off in WITHDRAWN alone, the JOIN pending flag is set throughout JOINING and, but for HALTED, nowhere else; a count that is not valid is
held as 0. -/
def SequencerInv (s : State) : Prop :=
  (s.seq.listenTimer.isSome = true ↔ s.seq.state = .listening)
    ∧ (s.seq.syncTimer.isSome = true ↔ s.seq.state = .syncing)
    ∧ (s.line.holdOff.isSome = true ↔ s.seq.state = .withdrawn)
    ∧ (s.seq.state = .joining → s.seq.joinPending = true)
    ∧ (s.seq.joinPending = true → s.seq.state = .joining ∨ s.seq.state = .halted)
    ∧ (s.seq.countValid = false → s.seq.orderCount = 0)

/-! ## Invariants of the reset and the load -/

/-- R187 to R189: the loader is HELD exactly while a source holds the reset; a supply below 2.7 V holds it; until acceptance or refusal the
station is OFF, after acceptance it is neither OFF nor without a digest, and after refusal it is HALTED; the digest is none but in ACCEPTED. -/
def ResetInv (s : State) : Prop :=
  (s.loader.state = .held ↔ s.hold.bySupply = true ∨ s.hold.byPin = true)
    ∧ (s.hold.powered = false → s.hold.bySupply = true)
    ∧ (s.seq.state = .off ↔ s.loader.state = .held ∨ s.loader.state = .reading ∨ s.loader.state = .checking)
    ∧ (s.loader.state = .refused → s.seq.state = .halted)
    ∧ (s.loader.digest.isSome = true ↔ s.loader.state = .accepted)

/-! ## Invariants of the timers and the horn -/

/-- A timer is IDLE exactly while its arming condition does not hold (R152, R153). -/
def armedAs (armed : Bool) (t : TimerState) : Prop := t = .idle ↔ armed = false

/-- How a timer takes one moment, by the table of R153: `armed` is its arming condition after the moment, `active` that a masked activity arose
in it. -/
def TakesMoment (armed active : Prop) (reloadMs : Nat) (before after : TimerState) : Prop :=
  (¬ armed → after = .idle)
    ∧ (armed → before = .idle → after = .counting reloadMs)
    ∧ (armed → active → after = .counting reloadMs)
    ∧ (armed → ¬ active → before ≠ .idle → after = before)

/-- R153, R155, R157, R158, R160: each timer is armed while its condition holds; T0 never rests in EXPIRED (R155). -/
def TimersInv (s : State) : Prop :=
  armedAs (t0Armed s) s.timers.t0 ∧ armedAs (t1Armed s) s.timers.t1 ∧ armedAs (t2Armed s) s.timers.t2
    ∧ armedAs (t3Armed s) s.timers.t3 ∧ s.timers.t0 ≠ .expired

/-- R144, R145: what the horn sounds is always what the records, the line state and the T3 mute ask for, and its cycle stays within 4 s. -/
def HornInv (s : State) : Prop := s.panel.horn = hornPattern s ∧ s.panel.hornPhaseMs < 4000

/-- The command is a sample that a scanned line or a button takes while sampling runs, or the expiry of its settling timer: a change of the contact,
the timer at 0, or a SETTLING contact back at the stable level (R115, R117, R118, R131, R132). -/
def TakesSample (c : Instr) (s : State) : Prop :=
  panelRuns s.seq.state = true
    ∧ ((∃ l : InputLine,
          isScanned s.cfg l = true
            ∧ ((∃ pin : PinLevel, c = .fieldInputChange l pin)
                ∨ (c = .inputSettlingExpiry l ∧ s.scanner.lines[l].debouncer.settling = some 0)
                ∨ (c = .inputSettlingAbandoned l ∧ s.scanner.lines[l].debouncer.settling.isSome = true)))
        ∨ ∃ b : Button,
            (∃ pin : PinLevel, c = .buttonInputChange b pin)
              ∨ (c = .buttonSettlingExpiry b ∧ (debouncerOf s.panel b).settling = some 0)
              ∨ (c = .buttonSettlingAbandoned b ∧ (debouncerOf s.panel b).settling.isSome = true))

/-- The order in which the expiries of one millisecond are queued (assumption 6). -/
def expiryOrder : List Instr :=
  [Instr.activityTimerExpiry .t1, .activityTimerExpiry .t2, .activityTimerExpiry .t3, .lampTestTimeout, .t0PresenceExpiry]
    ++ ((List.finRange 32).map Instr.inputSettlingExpiry
    ++ ([Instr.buttonSettlingExpiry .ack, .buttonSettlingExpiry .silence, .buttonSettlingExpiry .reset, .buttonSettlingExpiry .test]
    ++ ((List.finRange 30).map Instr.absentTimeout
    ++ [Instr.repairTimerExpiry, .syncTimerExpiry, .listenTimerExpiry, .holdOffExpiry, .loadChecksComplete])))

/-! ## What a command leaves alone -/

/-- The load, the reset hold, the pins, the configuration and the waiting commands are as they were. -/
def KeepsSetup (s t : State) : Prop :=
  t.loader = s.loader ∧ t.hold = s.hold ∧ t.pins = s.pins ∧ t.cfg = s.cfg ∧ t.pending = s.pending

/-- The buttons' debouncers, the operator queue and the press-drop counter are as they were; the horn may follow the records. -/
def KeepsPanel (s t : State) : Prop :=
  t.panel.ack = s.panel.ack ∧ t.panel.silence = s.panel.silence ∧ t.panel.reset = s.panel.reset ∧ t.panel.test = s.panel.test
    ∧ t.panel.queue = s.panel.queue ∧ t.panel.pressDrops = s.panel.pressDrops

/-- At a frame heard: the line controller's counts and counters and its hold-off are as they were, and it awaits no idle gap (R35). -/
def KeepsCounts (s t : State) : Prop :=
  t.line.failures = s.line.failures ∧ t.line.mismatches = s.line.mismatches ∧ t.line.holdOff = s.line.holdOff
    ∧ t.line.awaitsGap = false
    ∧ t.line.withdrawals = s.line.withdrawals ∧ t.line.voidsDriven = s.line.voidsDriven

/-- Every membership entry but one station's is as it was. -/
def KeepsOtherEntries (n : Station) (s t : State) : Prop :=
  ∀ m : Station, m ≠ n → t.members.entries[m] = s.members.entries[m]

/-- What a frame of another sender leaves alone at every receiver that it neither halts nor restarts (R40): the setup, the panel, the lamp
driver and the line controller's counts; and, unless it ends SYNCING, the input scanner with its queue, and the line state with its timers. An own
attempt is over by then (assumption 5). -/
def FrameKeeps (s t : State) : Prop :=
  KeepsSetup s t ∧ KeepsPanel s t ∧ KeepsCounts s t ∧ t.lamp = s.lamp ∧ t.line.attempt = none ∧ t.line.drive = .recessive
    ∧ (s.seq.state ≠ .syncing →
        t.scanner = s.scanner ∧ t.seq.state = s.seq.state ∧ t.seq.listenTimer = s.seq.listenTimer ∧ t.seq.syncTimer = s.seq.syncTimer
          ∧ t.seq.joinPending = s.seq.joinPending ∧ t.seq.joinReason = s.seq.joinReason)

/-- The snapshot job, the pending-region slot and the region drops are as they were. -/
def KeepsJob (s t : State) : Prop :=
  t.transfer.job = s.transfer.job ∧ t.transfer.pendingRegion = s.transfer.pendingRegion ∧ t.transfer.regionDrops = s.transfer.regionDrops

/-- The order count, its validity and the POINT-heard flag are as they were. -/
def KeepsOrder (s t : State) : Prop :=
  t.seq.orderCount = s.seq.orderCount ∧ t.seq.countValid = s.seq.countValid ∧ t.seq.pointHeard = s.seq.pointHeard

/-- The repair timer runs on, and the repair query flag stands as the test of R84 leaves it with no attempt of the query on the line: set
while an entry is STALE if it was set, or if the station is SYNCED and the repair timer is not running; else clear. -/
def RepairTested (s t : State) : Prop :=
  t.members.repairTimer = s.members.repairTimer
    ∧ t.members.repairFlag
        = (anyStale t && (s.members.repairFlag || (t.seq.state == .synced && s.members.repairTimer.isNone)))

/-- Points owned by other stations are LOST, with their change counts kept; own and unused points are as they were (R21). -/
def LosesOthers (s t : State) : Prop :=
  ∀ p : PointIndex, t.points[p] = if isUsed s.cfg p && !isOwn s.cfg p then lose s.points[p] else s.points[p]

/-- One station's points are LOST, with their change counts kept; every other point is as it was (R79). -/
def LosesPointsOf (n : Station) (s t : State) : Prop :=
  ∀ p : PointIndex, t.points[p] = if s.cfg.points[p].owner = some n then lose s.points[p] else s.points[p]

/-- A frame is only heard: its sender's age is 0, and no other part of the membership table moves (R77). -/
def AgeReset (sender : StationField) (s t : State) : Prop :=
  (∀ m : Station,
      t.members.entries[m]
        = if stationOfField sender = some m then { s.members.entries[m] with ageMs := 0 } else s.members.entries[m])
    ∧ t.members.orderDisagreements = s.members.orderDisagreements

/-- A frame from which a station takes nothing but that its sender was heard. -/
def OnlyHeard (sender : StationField) (s t : State) : Prop :=
  AgeReset sender s t ∧ t.points = s.points ∧ t.seq = s.seq ∧ t.transfer = s.transfer ∧ t.scanner = s.scanner
    ∧ t.responder = s.responder ∧ t.raised = 0 ∧ FrameKeeps s t ∧ RepairTested s t

/-! ## Line states (section 5.1) -/

/-- The command is a received frame of classes 0 to 4, which may move a membership entry (R73 to R76). -/
def movesMembership : Instr → Bool
  | .pointFrame _ _ => true
  | .operatorFrame _ _ => true
  | .joinFrame _ _ => true
  | .snapshotStart _ _ => true
  | .snapshotData _ _ => true
  | .presenceFrame _ _ => true
  | _ => false

/-- The command is a received QUERY frame. -/
def isQueryFrame : Instr → Bool
  | .queryStatus _ _ => true
  | .queryMembers _ _ => true
  | .queryRegion _ _ => true
  | .queryRestart _ _ => true
  | _ => false

/-- The command is a received frame of classes 0 to 6 (R40). -/
def isDeliveredFrame : Instr → Bool
  | .replyFrame _ _ => true
  | c => movesMembership c || isQueryFrame c

/-- The command is an absent timeout (R78). -/
def isAbsentTimeout : Instr → Bool
  | .absentTimeout _ => true
  | _ => false

/-- The command is a hardware reset (R187). -/
def isHardwareReset : Instr → Bool
  | .hardwareReset _ => true
  | _ => false

/-- The recessive bit times seen ahead of a received frame, faulty or not (R35). -/
def frameGap : Instr → Option Nat
  | .pointFrame heading _ => some heading.gap
  | .operatorFrame heading _ => some heading.gap
  | .joinFrame heading _ => some heading.gap
  | .snapshotStart heading _ => some heading.gap
  | .snapshotData heading _ => some heading.gap
  | .presenceFrame heading _ => some heading.gap
  | .queryStatus heading _ => some heading.gap
  | .queryMembers heading _ => some heading.gap
  | .queryRegion heading _ => some heading.gap
  | .queryRestart heading _ => some heading.gap
  | .replyFrame heading _ => some heading.gap
  | .unassignedFrame heading _ => some heading.gap
  | .faultyFrameReceived faulty => some faulty.gap
  | _ => none

/-- The number a frame command carries in its arbitration field. -/
def frameSender : Instr → Option StationField
  | .pointFrame heading _ => some heading.sender
  | .operatorFrame heading _ => some heading.sender
  | .joinFrame heading _ => some heading.sender
  | .snapshotStart heading _ => some heading.sender
  | .snapshotData heading _ => some heading.sender
  | .presenceFrame heading _ => some heading.sender
  | .queryStatus heading _ => some heading.sender
  | .queryMembers heading _ => some heading.sender
  | .queryRegion heading _ => some heading.sender
  | .queryRestart heading _ => some heading.sender
  | .replyFrame heading _ => some heading.sender
  | .unassignedFrame heading _ => some heading.sender
  | _ => none

/-- The table of line-state transitions of section 5.1, with the commands that can bring each. A state may also stay. -/
def lineStateMayPass (c : Instr) (a b : LineState) : Bool :=
  a == b
    || match a, b with
      | _, .off => isHardwareReset c
      | .off, .listening => c == .loadChecksComplete
      | .off, .halted => c == .loadChecksComplete
      | .listening, .joining => c == .listenTimerExpiry
      | .joining, .syncing => c == .ownFrameSuccessfulEnd
      | .joining, .synced => c == .ownFrameSuccessfulEnd
      | .syncing, .synced => movesMembership c || isAbsentTimeout c || c == .syncTimerExpiry
      | .joining, .withdrawn => c == .echoMismatch || c == .attemptVoided
      | .syncing, .withdrawn => c == .echoMismatch || c == .attemptVoided
      | .synced, .withdrawn => c == .echoMismatch || c == .attemptVoided
      | .withdrawn, .listening => c == .holdOffExpiry
      | .listening, .halted => isDeliveredFrame c
      | .joining, .halted => isDeliveredFrame c || c == .echoMismatch
      | .syncing, .halted => isDeliveredFrame c || c == .echoMismatch
      | .synced, .halted => isDeliveredFrame c || c == .echoMismatch
      | .joining, .listening => isQueryFrame c
      | .syncing, .listening => isQueryFrame c
      | .synced, .listening => isQueryFrame c
      | _, _ => false

end Sys2Proof.Machine
end

