-- ==== Sys2Proof/Certificates/Slice0/Obligations.lean ====
section
/-! DEFINITION. The statements about the GA-830 that the provers are asked for: what each command does and what it leaves alone, the encodings,
and the invariants that every step keeps. -/

open Sys2Proof Sys2Proof.Machine

/-! ## The machine's step -/

/-- A step takes the command at the front of the queue and runs it on the state with the queue's rest. -/
def Obligations.StepRunsTheFrontCommand : Prop :=
  ∀ (s : State) (c : Instr) (rest : List Instr), s.pending = c :: rest → step s = exec c (s.setPending rest)

/-- On an empty queue one millisecond passes (the model's choice, assumption 6): every timer that runs loses 1 ms, those of the lines and buttons
and of the lamp test among them, ages grow, the flash cycle, the horn's cycle and the scan of the eight rows move on. A void or a fault mark that was
driven is over, by assumption 8, and the field raised, the model's own, is 0, by assumption 19; every other item stays. The expiry of each timer
that stands at 0 then, and of each age that stands at 4P, is queued, once, in the order of assumption 6; nothing else is queued but the end of the
load checks. -/
def Obligations.IdleStepPassesOneMillisecond : Prop :=
  ∀ s : State, s.pending = [] →
    ∃ t, step s = .next t
      ∧ t.lamp.flashPhaseMs = (s.lamp.flashPhaseMs + 1) % 2000 ∧ t.lamp.scanRow = s.lamp.scanRow + 1
      ∧ (∀ ms, s.lamp.test = .active ms → t.lamp.test = .active (ms - 1))
      ∧ ((∀ ms, s.lamp.test ≠ .active ms) → t.lamp.test = s.lamp.test)
      ∧ t.seq = { s.seq with listenTimer := s.seq.listenTimer.map (· - 1), syncTimer := s.seq.syncTimer.map (· - 1) }
      ∧ t.line = { s.line with
          drive := (if s.line.attempt.isSome then .frame else .recessive)
          holdOff := s.line.holdOff.map (· - 1) }
      ∧ (∀ n : Station,
          t.members.entries[n]
            = if receives s.seq.state = true ∧ s.members.entries[n].state ≠ .absent then
                { s.members.entries[n] with ageMs := min (s.members.entries[n].ageMs + 1) (4 * s.cfg.presenceMs) }
              else s.members.entries[n])
      ∧ t.members.repairTimer = s.members.repairTimer.map (· - 1) ∧ t.members.repairFlag = s.members.repairFlag
      ∧ t.members.orderDisagreements = s.members.orderDisagreements
      ∧ (∀ before after : TimerState,
          ((before, after) = (s.timers.t0, t.timers.t0) ∨ (before, after) = (s.timers.t1, t.timers.t1)
            ∨ (before, after) = (s.timers.t2, t.timers.t2) ∨ (before, after) = (s.timers.t3, t.timers.t3)) →
          (∀ ms, before = .counting ms → after = .counting (ms - 1)) ∧ ((∀ ms, before ≠ .counting ms) → after = before))
      ∧ t.timers.presencePending = s.timers.presencePending
      ∧ (∀ l : InputLine,
          t.scanner.lines[l].reported = s.scanner.lines[l].reported
            ∧ t.scanner.lines[l].debouncer.raw = s.scanner.lines[l].debouncer.raw
            ∧ t.scanner.lines[l].debouncer.stable = s.scanner.lines[l].debouncer.stable
            ∧ t.scanner.lines[l].debouncer.settling
                = if panelRuns s.seq.state then s.scanner.lines[l].debouncer.settling.map (· - 1)
                  else s.scanner.lines[l].debouncer.settling)
      ∧ (∀ b : Button,
          (debouncerOf t.panel b).raw = (debouncerOf s.panel b).raw ∧ (debouncerOf t.panel b).stable = (debouncerOf s.panel b).stable
            ∧ (debouncerOf t.panel b).settling
                = if panelRuns s.seq.state then (debouncerOf s.panel b).settling.map (· - 1) else (debouncerOf s.panel b).settling)
      ∧ t.panel.horn = s.panel.horn
      ∧ t.panel.hornPhaseMs = (if s.panel.horn = .intermittent then (s.panel.hornPhaseMs + 1) % 4000 else s.panel.hornPhaseMs)
      ∧ t.scanner.queue = s.scanner.queue ∧ t.panel.queue = s.panel.queue ∧ t.panel.pressDrops = s.panel.pressDrops ∧ t.raised = 0
      ∧ t.points = s.points ∧ t.cfg = s.cfg ∧ t.loader = s.loader ∧ t.hold = s.hold ∧ t.pins = s.pins ∧ t.transfer = s.transfer
      ∧ t.responder = s.responder
      ∧ (∀ c : Instr, c ∈ t.pending ↔
          (c = .activityTimerExpiry .t1 ∧ t.timers.t1 = .counting 0) ∨ (c = .activityTimerExpiry .t2 ∧ t.timers.t2 = .counting 0)
          ∨ (c = .activityTimerExpiry .t3 ∧ t.timers.t3 = .counting 0) ∨ (c = .lampTestTimeout ∧ t.lamp.test = .active 0)
          ∨ (c = .t0PresenceExpiry ∧ t.timers.t0 = .counting 0)
          ∨ (∃ l : InputLine,
              c = .inputSettlingExpiry l ∧ panelRuns s.seq.state = true ∧ t.scanner.lines[l].debouncer.settling = some 0)
          ∨ (∃ b : Button, c = .buttonSettlingExpiry b ∧ panelRuns s.seq.state = true ∧ (debouncerOf t.panel b).settling = some 0)
          ∨ (∃ n : Station, c = .absentTimeout n ∧ receives s.seq.state = true ∧ s.cfg.self ≠ some n
              ∧ s.members.entries[n].state ≠ .absent ∧ 4 * s.cfg.presenceMs ≤ t.members.entries[n].ageMs)
          ∨ (c = .repairTimerExpiry ∧ t.members.repairTimer = some 0) ∨ (c = .syncTimerExpiry ∧ t.seq.syncTimer = some 0)
          ∨ (c = .listenTimerExpiry ∧ t.seq.listenTimer = some 0) ∨ (c = .holdOffExpiry ∧ t.line.holdOff = some 0)
          ∨ (c = .loadChecksComplete ∧ s.loader.state = .checking))
      ∧ t.pending.Sublist expiryOrder

/-- Every command answers a next state, and leaves the waiting commands as they were. That no command stops the station is the model's reading of
the manual, assumption 22, and that an event which cannot arise in a state leaves it as it is, is the model's choice, assumption 4. -/
def Obligations.EveryCommandAnswersANextState : Prop :=
  ∀ (c : Instr) (s : State), ∃ t, exec c s = .next t ∧ t.pending = s.pending

/-! ## Hardware reset and the load -/

/-- Hardware reset by a supply that falls below 2.7 V, or by RESETn held low for 10 µs or longer, takes every block to its reset values; only the
point table, which is not read in OFF, the input pins and the waiting commands stay. A shorter low level has no effect, nor has a supply of 2.7 V or
more but that it lets a station whose power-on reset is held drive its pins. The values the manual does not give are the model's, assumptions 11 to
16, and so is it that a second source takes them again, assumption 27, and that no idle gap is awaited then, assumption 26. The reset values are
those of the table of section 11.1: OFF and HELD, no attempt on a recessive line, every timer stopped, every count and diagnostic counter 0, every
queue, slot and context empty, every flag clear, the debouncers released and STEADY, the flash cycle at phase 0, the lamp test IDLE, and the outputs
silent, released and unlit but for FLT. -/
def Obligations.HardwareResetSetsTheResetValues : Prop :=
  ∀ (s : State) (millivolts lowMicros : Nat),
    exec (.hardwareReset (.supply millivolts)) s
        = (if millivolts < 2700 then
            .next { State.reset with
              hold := { s.hold with bySupply := true, powered := false }, pins := s.pins, points := s.points, pending := s.pending }
          else if s.hold.bySupply then .next { s with hold := { s.hold with powered := true } }
          else .next s)
      ∧ exec (.hardwareReset (.pin lowMicros)) s
        = (if lowMicros < 10 then .next s
          else .next { State.reset with hold := { s.hold with byPin := true }, pins := s.pins, points := s.points, pending := s.pending })
      ∧ (State.reset.loader.state = .held ∧ State.reset.loader.digest = none ∧ State.reset.seq.state = .off
          ∧ State.reset.seq.listenTimer = none ∧ State.reset.seq.syncTimer = none ∧ State.reset.seq.joinPending = false
          ∧ State.reset.seq.countValid = false ∧ State.reset.seq.pointHeard = false
          ∧ State.reset.line = { attempt := none, drive := .recessive, failures := 0, mismatches := 0, holdOff := none, awaitsGap := false,
                                 withdrawals := 0, voidsDriven := 0 }
          ∧ State.reset.members.repairFlag = false ∧ State.reset.members.repairTimer = none ∧ State.reset.members.orderDisagreements = 0
          ∧ (∀ n : Station, State.reset.transfer.contexts[n] = none)
          ∧ State.reset.transfer.job = .idle ∧ State.reset.transfer.pendingRegion = none
          ∧ State.reset.transfer.regionDrops = 0 ∧ State.reset.transfer.transferDrops = 0
          ∧ State.reset.scanner.queue = [] ∧ State.reset.panel.queue = [] ∧ State.reset.panel.pressDrops = 0
          ∧ (∀ b : Button, debouncerOf State.reset.panel b = { raw := .released, stable := .released, settling := none })
          ∧ State.reset.panel.horn = .silent
          ∧ State.reset.timers = { t0 := .idle, t1 := .idle, t2 := .idle, t3 := .idle, presencePending := false }
          ∧ State.reset.lamp.flashPhaseMs = 0 ∧ State.reset.lamp.test = .idle ∧ State.reset.responder = none
          ∧ almAsserted State.reset = false ∧ escAsserted State.reset = false ∧ fltAsserted State.reset = true
          ∧ brightness State.reset = .full ∧ (∀ r c : Fin 8, litMicros State.reset r c = 0))

/-- The release of the last source that holds the reset begins the load with the straps as sampled, a strap pin low for 0 and high or undriven for
1; with every strap open the number is 31 and the rate setting 1,1. While another source holds it, the loader stays HELD. The supply's hold ends
once it has stood at or above 2.8 V for 10 ms, and goes on before. The readings of MDI behind the 24 clock periods of the command and the address
give the 1222 bytes, most significant bit first, and complete the image check over bytes 0 to 1219; a memory that answers nothing reads as FFh
(R188, R190, R191, R202). That a reading not given is high is assumption 23, that the image bytes are held in between is the model's choice,
assumption 13, and that the pins keep what a release carries is assumption 14. -/
def Obligations.LoadReadsStrapsAndImage : Prop :=
  ∀ (s : State) (millivolts stoodMs : Nat) (stn : Vector PinLevel 5) (rate : Vector PinLevel 2) (straps : Straps) (mdi : List Bool),
    (∀ i : Fin 5, straps.stn.getLsbD i.val = (stn[i] != .low)) → (∀ i : Fin 2, straps.rate.getLsbD i.val = (rate[i] != .low)) →
    (s.loader.state = .held →
        (s.hold.bySupply = true → s.hold.byPin = false → 2800 ≤ millivolts → 10 ≤ stoodMs →
            exec (.resetRelease (.supply millivolts stoodMs) stn rate) s
              = .next { s with
                  hold := { bySupply := false, byPin := false, powered := true }
                  pins := { s.pins with stn := stn, rate := rate }
                  loader := { s.loader with state := .reading, straps := straps, image := [], checkResult := 0xFFFF } })
        ∧ (s.hold.bySupply = false → s.hold.byPin = true →
            exec (.resetRelease .pin stn rate) s
              = .next { s with
                  hold := { s.hold with byPin := false }
                  pins := { s.pins with stn := stn, rate := rate }
                  loader := { s.loader with state := .reading, straps := straps, image := [], checkResult := 0xFFFF } })
        ∧ (s.hold.bySupply = true → s.hold.byPin = true →
            (2800 ≤ millivolts → 10 ≤ stoodMs →
              exec (.resetRelease (.supply millivolts stoodMs) stn rate) s
                = .next { s with
                    hold := { bySupply := false, byPin := true, powered := true }
                    pins := { s.pins with stn := stn, rate := rate } })
              ∧ exec (.resetRelease .pin stn rate) s
                = .next { s with hold := { s.hold with byPin := false }, pins := { s.pins with stn := stn, rate := rate } }))
      ∧ (stn = Vector.replicate 5 .undriven → rate = Vector.replicate 2 .undriven → straps = { stn := 31, rate := 3 })
      ∧ ((millivolts < 2800 ∨ stoodMs < 10) → exec (.resetRelease (.supply millivolts stoodMs) stn rate) s = .next s)
      ∧ (s.loader.state = .reading → mdi.length = 9800 →
          ∃ image : List Byte,
            exec (.imageReadComplete mdi) s
                = .next { s with
                    loader := { s.loader with state := .checking, image := image, checkResult := checkOfBytes (image.take 1220) } }
              ∧ image.length = 1222
              ∧ ∀ i j : Nat, i < 1222 → j < 8 → mdi[24 + 8 * i + j]? = some ((imageByte image i).getLsbD (7 - j)))
      ∧ (s.loader.state = .reading →
          exec (.imageReadComplete []) s
            = .next { s with
                loader := { s.loader with
                  state := .checking, image := List.replicate 1222 0xFF, checkResult := checkOfBytes (List.replicate 1220 0xFF) } })

/-- The ten checks pass exactly on the images and straps that meet the ten conditions of R193, byte by byte. -/
def Obligations.TenChecksPassAsTheirTableStates : Prop :=
  ∀ (img : List Byte) (result : Word) (straps : Straps), img.length = 1222 →
    (firstFailedCheck result img straps = none ↔
      imageByte img 0 = 0x47 ∧ imageByte img 1 = 0x38
      ∧ imageByte img 2 = 1
      ∧ result = joinBytes (imageByte img 1220) (imageByte img 1221)
      ∧ 2 ≤ (imageByte img 3).toNat ∧ (imageByte img 3).toNat ≤ 40
      ∧ (∀ i : PointIndex, (imageByte img (16 + 4 * i.val)).toNat ≤ 30)
      ∧ (∀ i j : PointIndex, i ≠ j → imageByte img (16 + 4 * i.val) = imageByte img (16 + 4 * j.val) →
          imageByte img (16 + 4 * i.val) ≠ 0 →
          (imageByte img (18 + 4 * i.val)).extractLsb' 0 5 ≠ (imageByte img (18 + 4 * j.val)).extractLsb' 0 5)
      ∧ (∀ i : PointIndex, imageByte img (16 + 4 * i.val) ≠ 0 → (imageByte img (19 + 4 * i.val)).toNat ≤ 25)
      ∧ (∀ n : Station,
          (imageByte img (1042 + 6 * n.val)).toNat ≤ 15 ∧ (imageByte img (1043 + 6 * n.val)).toNat ≤ 15
            ∧ 1 ≤ (imageByte img (1044 + 6 * n.val)).toNat ∧ (imageByte img (1044 + 6 * n.val)).toNat ≤ 8
            ∧ 1 ≤ (imageByte img (1045 + 6 * n.val)).toNat ∧ (imageByte img (1045 + 6 * n.val)).toNat ≤ 8)
      ∧ (joinBytes (imageByte img 4) (imageByte img 5)).toNat ≤ 3600
      ∧ (joinBytes (imageByte img 6) (imageByte img 7)).toNat ≤ 3600
      ∧ (joinBytes (imageByte img 8) (imageByte img 9)).toNat ≤ 3600
      ∧ 1 ≤ straps.stn.toNat ∧ straps.stn.toNat ≤ 30 ∧ straps.rate.toNat ≠ 3)

/-- The configuration takes each attribute from the byte and the bits that R65 to R67 give it. That a point of owner 0 holds attributes of 0 is
the model's choice, assumption 16. -/
def Obligations.ConfigurationReadsTheImageBytes : Prop :=
  ∀ (img : List Byte) (straps : Straps) (n : Station), img.length = 1222 → straps.stn = fieldOf n →
    (configurationOf img straps).self = some n
    ∧ (configurationOf img straps).rate = straps.rate
    ∧ (configurationOf img straps).presenceMs = 50 * (imageByte img 3).toNat
    ∧ (configurationOf img straps).t1ReloadMs = 1000 * (joinBytes (imageByte img 4) (imageByte img 5)).toNat
    ∧ (configurationOf img straps).t2ReloadMs = 1000 * (joinBytes (imageByte img 6) (imageByte img 7)).toNat
    ∧ (configurationOf img straps).t3ReloadMs = 1000 * (joinBytes (imageByte img 8) (imageByte img 9)).toNat
    ∧ (configurationOf img straps).t1Mask = imageByte img 10
    ∧ (configurationOf img straps).t2Mask = imageByte img 11
    ∧ (configurationOf img straps).t3Mask = imageByte img 12
    ∧ (configurationOf img straps).controlSet = joinBytes (imageByte img (1040 + 6 * n.val)) (imageByte img (1041 + 6 * n.val))
    ∧ (configurationOf img straps).display
        = some { originRow := (imageByte img (1042 + 6 * n.val)).toNat, originColumn := (imageByte img (1043 + 6 * n.val)).toNat,
                 rows := (imageByte img (1044 + 6 * n.val)).toNat, columns := (imageByte img (1045 + 6 * n.val)).toNat }
    ∧ ∀ p : PointIndex,
        (imageByte img (16 + 4 * p.val) = 0 → (configurationOf img straps).points[p] = unusedPoint)
        ∧ ∀ owner : Station, (imageByte img (16 + 4 * p.val)).toNat = numberOf owner →
            (configurationOf img straps).points[p]
              = { owner := some owner
                  group := ((imageByte img (17 + 4 * p.val)).extractLsb' 0 4).toFin
                  inputLine := ((imageByte img (18 + 4 * p.val)).extractLsb' 0 5).toFin
                  abnormalWhenClosed := (imageByte img (18 + 4 * p.val)).getLsbD 7
                  lockIn := (imageByte img (17 + 4 * p.val)).getLsbD 4
                  ringback := (imageByte img (17 + 4 * p.val)).getLsbD 5
                  debounceMs := 10 * (imageByte img (19 + 4 * p.val)).toNat }

/-- When the ten checks pass, the digest is fixed, the configuration taken, the blocks take their starting values and the station enters LISTENING
with reason HARDWARE_RESET, to receive after a full idle gap. The first samples of the scanned lines and of the buttons settle as any other does,
and of the timers T1 alone is armed. That the image bytes are let go is the model's choice, assumption 13; that the first samples fall at the entry
to LISTENING itself is assumption 25; that a line not scanned is held at the resting levels is the model's choice, assumption 17, and the field
raised is the model's own, assumption 19. -/
def Obligations.GoodImageStartsTheStation : Prop :=
  ∀ s : State, s.loader.state = .checking → s.seq.state = .off →
    firstFailedCheck s.loader.checkResult s.loader.image s.loader.straps = none →
    ∃ t, exec .loadChecksComplete s = .next t
      ∧ t.loader = { s.loader with state := .accepted, image := [], digest := some s.loader.checkResult }
      ∧ t.cfg = configurationOf s.loader.image s.loader.straps
      ∧ t.seq = { state := .listening, joinReason := .hardwareReset, listenTimer := some (2 * t.cfg.presenceMs), syncTimer := none,
                  joinPending := false, orderCount := 0, countValid := false, pointHeard := false }
      ∧ (∀ p : PointIndex,
          t.points[p] = if isUsed t.cfg p && !isOwn t.cfg p then { quietRecord with state := .lost } else quietRecord)
      ∧ (∀ n : Station, t.members.entries[n] = absentEntry) ∧ t.members.repairFlag = false ∧ t.members.repairTimer = none
      ∧ t.scanner.queue = [] ∧ (∀ l : InputLine, t.scanner.lines[l].reported = .normal)
      ∧ (∀ l : InputLine, pointOfLine t.cfg l = none → t.scanner.lines[l] = restingLine)
      ∧ (∀ (l : InputLine) (p : PointIndex), pointOfLine t.cfg l = some p →
          t.scanner.lines[l].debouncer
            = if (s.pins.field[l] = .low ↔ t.cfg.points[p].abnormalWhenClosed = true) then
                (if t.cfg.points[p].debounceMs = 0 then { raw := .abnormal, stable := .abnormal, settling := none }
                 else { raw := .abnormal, stable := .normal, settling := some t.cfg.points[p].debounceMs })
              else { raw := .normal, stable := .normal, settling := none })
      ∧ (t.raised = classInput ↔ ∃ (l : InputLine) (p : PointIndex), pointOfLine t.cfg l = some p ∧ t.cfg.points[p].debounceMs = 0
          ∧ (s.pins.field[l] = .low ↔ t.cfg.points[p].abnormalWhenClosed = true))
      ∧ (∀ b : Button,
          debouncerOf t.panel b
            = if buttonPin s.pins b = .low then { raw := .pressed, stable := .released, settling := some 20 } else restingButton)
      ∧ t.timers.t0 = .idle ∧ t.timers.t2 = .idle ∧ t.timers.t3 = .idle
      ∧ (s.timers.t1 = .idle → t.timers.t1 = if t.cfg.t1ReloadMs = 0 then .idle else .counting t.cfg.t1ReloadMs)
      ∧ t.timers.presencePending = s.timers.presencePending ∧ t.panel.horn = .silent ∧ t.panel.pressDrops = s.panel.pressDrops
      ∧ t.line = { s.line with awaitsGap := true }
      ∧ t.transfer = s.transfer ∧ t.lamp = s.lamp ∧ t.responder = s.responder ∧ t.panel.queue = s.panel.queue
      ∧ t.hold = s.hold ∧ t.pins = s.pins ∧ t.pending = s.pending

/-- When a check fails, the image is refused: HALTED, no digest, no configuration, every record QUIET; every other block stays as it was, FLT is
asserted and ALM released. The blank configuration is the model's choice, assumption 16. -/
def Obligations.BadImageHaltsTheStation : Prop :=
  ∀ (s : State) (k : Nat), s.loader.state = .checking → s.seq.state = .off →
    firstFailedCheck s.loader.checkResult s.loader.image s.loader.straps = some k →
    ∃ t, exec .loadChecksComplete s = .next t
      ∧ t = { s with
          loader := { s.loader with state := .refused, image := [], digest := none }
          cfg := blankConfiguration
          points := Vector.replicate 256 quietRecord
          seq := { s.seq with state := .halted } }
      ∧ fltAsserted t = true ∧ almAsserted t = false

/-! ## The alarm sequence -/

/-- ATTEMPT_START with a TRIP at the head of the report queue: the POINT frame carries the result that R8 gives from the owner's own record,
the flags of the group's other points and the owner's order count; nothing but the attempt changes. -/
def Obligations.TripIsBuiltFromTheOwnersRecord : Prop :=
  ∀ (s : State) (l : InputLine) (rest : List ReportEntry) (p : PointIndex) (d : Word),
    s.seq.state = .synced → s.line.attempt = none → s.scanner.queue = { line := l, event := .trip } :: rest →
    pointOfLine s.cfg l = some p → s.loader.digest = some d →
    ∃ out : PointRecord,
      exec .attemptStart s
          = .next { s with
              line := { s.line with attempt := some { source := .reportQueue, content := .point p (wireOfRecord out) d }, drive := .frame
                                    awaitsGap := false } }
      ∧ ((s.points[p].state = .quiet ∨ s.points[p].state = .ringback) →
          out.state = .alert ∧ out.alertMark = s.seq.orderCount + 1 ∧ out.silenced = false
            ∧ out.changeCount = s.points[p].changeCount + 1
            ∧ (out.firstOut = false ↔
                ∃ q : PointIndex, q ≠ p ∧ isUsed s.cfg q = true ∧ s.cfg.points[q].group = s.cfg.points[p].group
                  ∧ s.points[q].firstOut = true))
      ∧ (s.points[p].state = .returned →
          out = { s.points[p] with
              state := .alert, alertMark := s.seq.orderCount + 1, silenced := false, changeCount := s.points[p].changeCount + 1 })
      ∧ ((s.points[p].state = .alert ∨ s.points[p].state = .held) → out = s.points[p])

/-- ATTEMPT_START with a CLEAR at the head of the report queue: the POINT frame carries the result that R9 gives from the owner's own record;
nothing but the attempt changes. -/
def Obligations.ClearIsBuiltFromTheOwnersRecord : Prop :=
  ∀ (s : State) (l : InputLine) (rest : List ReportEntry) (p : PointIndex) (d : Word),
    s.seq.state = .synced → s.line.attempt = none → s.scanner.queue = { line := l, event := .clear } :: rest →
    pointOfLine s.cfg l = some p → s.loader.digest = some d →
    ∃ out : PointRecord,
      exec .attemptStart s
          = .next { s with
              line := { s.line with attempt := some { source := .reportQueue, content := .point p (wireOfRecord out) d }, drive := .frame
                                    awaitsGap := false } }
      ∧ (s.points[p].state = .alert →
          out = if s.cfg.points[p].lockIn then { s.points[p] with state := .returned, changeCount := s.points[p].changeCount + 1 }
                else { quietRecord with changeCount := s.points[p].changeCount + 1 })
      ∧ (s.points[p].state = .held →
          out = if s.cfg.points[p].ringback then
                  { s.points[p] with state := .ringback, silenced := false, changeCount := s.points[p].changeCount + 1 }
                else { quietRecord with changeCount := s.points[p].changeCount + 1 })
      ∧ ((s.points[p].state = .quiet ∨ s.points[p].state = .returned ∨ s.points[p].state = .ringback) → out = s.points[p])

/-- ACK and RESET on one record (R10, R12), and SILENCE beside them. -/
def Obligations.OperationsOnOneRecord : Prop :=
  ∀ (r : PointRecord) (horizon : Word) (ringback : Bool),
    (operate .ack horizon ringback r
        = if (horizon - r.alertMark).toNat < 32768 then
            (if r.state = .alert then { r with state := .held, changeCount := r.changeCount + 1 }
             else if r.state = .returned then
               (if ringback then { r with state := .ringback, silenced := false, changeCount := r.changeCount + 1 }
                else { quietRecord with changeCount := r.changeCount + 1 })
             else r)
          else r)
    ∧ (operate .silence horizon ringback r
        = if (r.state = .alert ∨ r.state = .returned) ∧ r.silenced = false then
            { r with silenced := true, changeCount := r.changeCount + 1 }
          else r)
    ∧ (operate .reset horizon ringback r
        = if r.state = .ringback then { quietRecord with changeCount := r.changeCount + 1 } else r)

/-- The sequence and LOST marking keep every record lawful by the table of R2, and the operations and the tie rule keep the implied level; a
TRIP of a record that is not LOST leads to abnormal and a CLEAR to normal (R5). LOST marking clears first_out, silenced and alert_mark and keeps
change_count, and a record that is LOST stays as it is (R21). -/
def Obligations.SequenceKeepsRecordsLawful : Prop :=
  ∀ (r : PointRecord) (op : Operation) (horizon mark : Word) (flagged lockIn ringback : Bool),
    (RecordLawful r →
        RecordLawful (trip flagged mark r) ∧ RecordLawful (clear lockIn ringback r) ∧ RecordLawful (operate op horizon ringback r)
          ∧ RecordLawful (lose r) ∧ RecordLawful (unflag r))
    ∧ (r.state ≠ .lost → lose r = { state := .lost, firstOut := false, silenced := false, changeCount := r.changeCount, alertMark := 0 })
    ∧ (r.state = .lost → lose r = r)
    ∧ impliedLevel (operate op horizon ringback r).state = impliedLevel r.state
    ∧ impliedLevel (unflag r).state = impliedLevel r.state
    ∧ (r.state ≠ .lost →
        impliedLevel (trip flagged mark r).state = some .abnormal ∧ impliedLevel (clear lockIn ringback r).state = some .normal)

/-- R24: every command keeps at most one first_out in each group, and after a write that leaves two flags the point with the later mark, or on
equal marks the one with the higher index, loses its flag and nothing else. -/
def Obligations.OneFirstOutByTheTieRule : Prop :=
  (∀ s t : State, FirstOutInv s → step s = .next t → FirstOutInv t)
  ∧ ∀ (cfg : Configuration) (records : Records) (p q : PointIndex) (r : PointRecord),
      OneFlagPerGroup cfg records → isUsed cfg p = true → isUsed cfg q = true → q ≠ p →
      cfg.points[q].group = cfg.points[p].group → records[q].firstOut = true → r.firstOut = true →
      (∀ x : PointIndex, x ≠ p → x ≠ q → (writeRecord cfg records p r)[x] = records[x])
      ∧ (laterThan r.alertMark records[q].alertMark = true →
          (writeRecord cfg records p r)[p] = { r with firstOut := false } ∧ (writeRecord cfg records p r)[q] = records[q])
      ∧ (laterThan records[q].alertMark r.alertMark = true →
          (writeRecord cfg records p r)[p] = r ∧ (writeRecord cfg records p r)[q] = { records[q] with firstOut := false })
      ∧ (r.alertMark = records[q].alertMark → q < p →
          (writeRecord cfg records p r)[p] = { r with firstOut := false } ∧ (writeRecord cfg records p r)[q] = records[q])
      ∧ (r.alertMark = records[q].alertMark → p < q →
          (writeRecord cfg records p r)[p] = r ∧ (writeRecord cfg records p r)[q] = { records[q] with firstOut := false })

/-- The tie rule rests on the group's records alone: two stations of one configuration that hold the same records for a group hold the same
records for it after the same write (R25). Two stations that agree as R203 states take the same POINT or OPERATOR frame, of a third station or of one
of the two, alike (R16, R19): they remain peers, valid counts of both stay equal, and every used point LOST at neither has one record at both, but
for the flags of a group of which one of them held some point LOST. That two stations come to agree is not stated, assumption 29. -/
def Obligations.StationsAgreeAfterTheSameFrame : Prop :=
  (∀ (cfg cfg' : Configuration) (records records' : Records) (p : PointIndex) (r : PointRecord), cfg.points = cfg'.points →
    isUsed cfg p = true →
    (∀ q : PointIndex, isUsed cfg q = true → cfg.points[q].group = cfg.points[p].group → records[q] = records'[q]) →
    ∀ q : PointIndex, isUsed cfg q = true → cfg.points[q].group = cfg.points[p].group →
      (writeRecord cfg records p r)[q] = (writeRecord cfg' records' p r)[q])
  ∧ ∀ (s t u v : State) (gap : Nat) (c e : Instr), Peers s t → StationsAgree s t → hears gap t = true →
      ((∃ (sender : StationField) (payload : List Byte),
          (c = .pointFrame ⟨gap, sender⟩ payload ∨ c = .operatorFrame ⟨gap, sender⟩ payload) ∧ e = c ∧ hears gap s = true
            ∧ ownField s ≠ some sender ∧ ownField t ≠ some sender)
        ∨ (∃ (a : Attempt) (m : Station) (p : PointIndex) (w : WireRecord) (d : Word),
            c = .ownFrameSuccessfulEnd ∧ s.line.attempt = some a ∧ s.cfg.self = some m ∧ s.loader.digest = some d
              ∧ a.content = .point p w d ∧ (recordOfWire w).isSome = true ∧ isOwn s.cfg p = true
              ∧ e = .pointFrame ⟨gap, fieldOf m⟩ (buildPayload a.content))
        ∨ (∃ (a : Attempt) (m : Station) (op : Operation) (groups horizon d : Word),
            c = .ownFrameSuccessfulEnd ∧ s.line.attempt = some a ∧ s.cfg.self = some m ∧ s.loader.digest = some d
              ∧ a.content = .operator op groups horizon d ∧ e = .operatorFrame ⟨gap, fieldOf m⟩ (buildPayload a.content))) →
      exec c s = .next u → exec e t = .next v →
      Peers u v ∧ SameCount u v
        ∧ ∀ p : PointIndex, isUsed s.cfg p = true → u.points[p].state ≠ .lost → v.points[p].state ≠ .lost →
            unflag u.points[p] = unflag v.points[p]
              ∧ (GroupKnown s.cfg.points[p].group s → GroupKnown s.cfg.points[p].group t → u.points[p] = v.points[p])

/-! ## Attempts -/

/-- ATTEMPT_START picks the allowed ready source of the lowest class and puts the frame it builds on the line; with an attempt on the line
nothing changes, and with no allowed source ready none starts and nothing changes, assumption 4. Which sources are ready and which line states
allow them is spelled out as R49 gives it. What each source but the report queue builds: OPERATOR from the head entry, JOIN from digest and
reason, START and DATA from the job with the total and the points that the configuration gives, PRESENCE from count and line state, QUERY to the
lowest STALE station, REPLY to the slot's request with the STATUS or MEMBERS data item by item (R35, R49, R50, R62, R81, R85, R93, R107, R108,
R140, R179 to R181). -/
def Obligations.SelectorBuildsTheLowestReadyClass : Prop :=
  (∀ s : State,
     (∀ (src : Source) (content : FrameContent), s.line.attempt = none → sourceAllowed s.seq.state src = true →
         sourceReady s src = true →
         (∀ other : Source, sourceAllowed s.seq.state other = true → sourceReady s other = true →
           (classCode (classOfSource src)).toNat ≤ (classCode (classOfSource other)).toNat) →
         buildFrame s src = some content →
         exec .attemptStart s
           = .next { s with
               line := { s.line with attempt := some { source := src, content := content }, drive := .frame, awaitsGap := false } })
     ∧ (s.line.attempt = none → (∀ src : Source, sourceAllowed s.seq.state src = true → sourceReady s src = false) →
         exec .attemptStart s = .next s)
     ∧ (s.line.attempt.isSome = true → exec .attemptStart s = .next s)
     ∧ (sourceReady s .reportQueue = true ↔ s.scanner.queue ≠ []) ∧ (sourceReady s .operatorQueue = true ↔ s.panel.queue ≠ [])
     ∧ (sourceReady s .sequencer = true ↔ s.seq.joinPending = true) ∧ (sourceReady s .transferUnit = true ↔ s.transfer.job ≠ .idle)
     ∧ (sourceReady s .timerT0 = true ↔ s.timers.presencePending = true)
     ∧ (sourceReady s .membershipTable = true ↔ s.members.repairFlag = true)
     ∧ (sourceReady s .serviceResponder = true ↔ s.responder ≠ none))
  ∧ (∀ (state : LineState) (src : Source),
       sourceAllowed state src = true ↔
         state = .synced
         ∨ (state = .joining ∧ (src = .sequencer ∨ src = .timerT0 ∨ src = .serviceResponder))
         ∨ (state = .syncing ∧ (src = .timerT0 ∨ src = .serviceResponder)))
  ∧ (∀ (s : State) (d : Word), s.loader.digest = some d →
       (∀ (e : OperatorEntry) (rest : List OperatorEntry), s.panel.queue = e :: rest →
           buildFrame s .operatorQueue = some (.operator e.operation e.groups e.horizon d))
       ∧ buildFrame s .sequencer = some (.join d s.seq.joinReason)
       ∧ buildFrame s .timerT0 = some (.presence d (if s.seq.countValid then some s.seq.orderCount else none) s.seq.state)
       ∧ (∀ w : Window, s.transfer.job = .startPending w →
           buildFrame s .transferUnit
             = some (.start w (allPoints.countP fun p => isOwn s.cfg p && inWindow w p)
                 (if s.seq.countValid then some s.seq.orderCount else none) d))
       ∧ (∀ (w : Window) (c : PointIndex) (part remaining : Nat), s.transfer.job = .dataPending w (some c) part remaining →
           buildFrame s .transferUnit
             = some (.data part (remaining ≤ 3)
                 (((allPoints.filter fun p => isOwn s.cfg p && inWindow w p && c ≤ p).take (min 3 remaining)).map
                   fun p => wireOfRecord s.points[p])))
       ∧ (∀ n : Station, isStale s n = true → (∀ m : Station, m < n → isStale s m = false) →
           ∃ target : Fin 31, target.val = numberOf n ∧ buildFrame s .membershipTable = some (.query (.region target wholeGrid)))
       ∧ (∀ r : ReplyRequest, s.responder = some r →
           buildFrame s .serviceResponder
             = some (.reply r.kind ((0 : BitVec 3) ++ r.requester)
                 (match r.kind with
                   | .status => statusBody s
                   | .members => membersBody s r.secondHalf)))
       ∧ (s.scanner.queue.length ≤ 24 → s.panel.queue.length ≤ 4 → s.line.failures ≤ 16 →
           (statusBody s).length = 14
           ∧ (statusBody s)[0]? = some (stateByte s.seq.countValid s.seq.state)
           ∧ ((statusBody s)[1]?).map BitVec.toNat = some (8 * s.scanner.queue.length + s.panel.queue.length)
           ∧ ((statusBody s)[2]?).map BitVec.toNat = some s.line.failures
           ∧ (statusBody s)[3]? = some s.line.withdrawals ∧ (statusBody s)[4]? = some s.line.voidsDriven
           ∧ (statusBody s)[5]? = some s.panel.pressDrops ∧ (statusBody s)[6]? = some s.transfer.regionDrops
           ∧ (statusBody s)[7]? = some s.transfer.transferDrops ∧ (statusBody s)[8]? = some s.members.orderDisagreements
           ∧ (statusBody s)[9]? = some (if s.seq.countValid then highByte s.seq.orderCount else 0)
           ∧ (statusBody s)[10]? = some (if s.seq.countValid then lowByte s.seq.orderCount else 0)
           ∧ (statusBody s)[11]? = some (highByte d) ∧ (statusBody s)[12]? = some (lowByte d)
           ∧ ((statusBody s)[13]?).map BitVec.toNat
               = some (allLines.countP fun l =>
                   (pointOfLine s.cfg l).isSome && s.scanner.lines[l].debouncer.stable != s.scanner.lines[l].reported))
       ∧ (∀ half : Bool, (membersBody s half).length = 9 ∧ (membersBody s half)[0]? = some (if half then 1 else 0)
           ∧ ∀ (n : Station) (k : Nat), n.val = (if half then 15 else 0) + k → k < 15 →
               ∃ b : Byte, (membersBody s half)[1 + k / 2]? = some b
                 ∧ (if k % 2 = 0 then b.toNat / 16 else b.toNat % 16)
                     = if s.cfg.self = some n then 15
                       else match s.members.entries[n].state with
                         | .absent => 0 | .joining => 1 | .stale => 2 | .present => 3 | .mismatch => 4))

/-- LOST_ARBITRATION changes neither failure count, and a voided attempt and an echo mismatch short of their limits count as R42 says; the attempt
is over, and every source keeps its entry. By the readings of LRX the attempt comes to one of its four ends: lost arbitration where a bit sent
recessive in the arbitration field is the first to be seen otherwise, an echo mismatch at any other first difference through the delimiter, a void
in the two bits behind it, or the successful end; and at an echo mismatch LTX is driven low for a fault mark of 8 bit times (R37, R38, R39, R42).
The field raised is the model's own, assumption 19, and so is it that an inserted bit within the arbitration field counts as one of its bits,
assumption 28. -/
def Obligations.FailedAttemptsAreCounted : Prop :=
  (∀ (arbitration : Byte) (payload : List Byte) (seen : List Bool),
     comparedBits arbitration payload = insertBits (spanBits arbitration payload) ++ [true]
     ∧ (∀ k : Nat, attemptEnd arbitration payload seen = .lostArbitration k ↔
         (k < arbitrationLength arbitration payload ∧ (comparedBits arbitration payload)[k]? = some true ∧ seen[k]? = some false
           ∧ ∀ j : Nat, j < k → (comparedBits arbitration payload)[j]? = seen[j]?))
     ∧ (∀ k : Nat, attemptEnd arbitration payload seen = .echoMismatch k ↔
         (∃ b : Bool, (comparedBits arbitration payload)[k]? = some b ∧ seen[k]? = some (!b)
           ∧ (b = false ∨ arbitrationLength arbitration payload ≤ k)
           ∧ ∀ j : Nat, j < k → (comparedBits arbitration payload)[j]? = seen[j]?))
     ∧ (attemptEnd arbitration payload seen = .voided ↔
         ((comparedBits arbitration payload) <+: seen
           ∧ (seen[(comparedBits arbitration payload).length]? = some false
               ∨ seen[(comparedBits arbitration payload).length + 1]? = some false))))
  ∧ (∀ (s : State) (a : Attempt) (lrx : List Bool) (bit k : Nat), s.hold.powered = true → s.line.drive = .frame →
       s.line.attempt = some a → endOfAttempt s a lrx = .echoMismatch bit →
       ltxPin s lrx k
         = if k ≤ bit then (if (attemptBits s a).getD k true then .high else .low) else if k ≤ bit + 8 then .low else .high)
  ∧ ∀ (s : State) (a : Attempt), transmits s.seq.state = true → s.line.attempt = some a →
    (∃ t, exec .lostArbitration s = .next t
      ∧ t = ((s.setLine { s.line with attempt := none, drive := .recessive }).setRaised 0).setMembers t.members
      ∧ t.members = { s.members with repairFlag := t.members.repairFlag } ∧ RepairTested s t)
    ∧ (s.line.failures < 15 →
        ∃ t, exec .attemptVoided s = .next t
          ∧ t = ((s.setLine { s.line with
                    attempt := none, drive := .recessive, failures := s.line.failures + 1, mismatches := 0 }).setRaised 0).setMembers t.members
          ∧ t.members = { s.members with repairFlag := t.members.repairFlag } ∧ RepairTested s t)
    ∧ (s.line.failures < 15 → s.line.mismatches < 2 →
        ∃ t, exec .echoMismatch s = .next t
          ∧ t = ((s.setLine { s.line with
                    attempt := none, drive := .recessive, failures := s.line.failures + 1
                    mismatches := s.line.mismatches + 1 }).setRaised 0).setMembers t.members
          ∧ t.members = { s.members with repairFlag := t.members.repairFlag } ∧ RepairTested s t)

/-- The sixteenth failure in a row withdraws the station, by a void or by an echo mismatch that does not halt it: the blocks are set as R44
lists, and the report queue, the own points, the counters and the configuration are kept. Of timers armed as their conditions have it, T1 runs on,
and T2 and T3 run on while the own points keep their conditions, and are IDLE where the loss of the others ends them (R44, R100, R161). -/
def Obligations.SixteenthFailureWithdraws : Prop :=
  ∀ (s : State) (a : Attempt) (c : Instr), transmits s.seq.state = true → s.line.attempt = some a → s.line.failures = 15 →
    (c = .attemptVoided ∨ (c = .echoMismatch ∧ s.line.mismatches < 2)) →
    ∃ t, exec c s = .next t
      ∧ t.seq = { s.seq with
          state := .withdrawn, listenTimer := none, syncTimer := none, joinPending := false, orderCount := 0, countValid := false
          pointHeard := false }
      ∧ t.line = { s.line with
          attempt := none, drive := .recessive, failures := 0, mismatches := 0, holdOff := some 2000
          withdrawals := if s.line.withdrawals = 255 then 255 else s.line.withdrawals + 1 }
      ∧ LosesOthers s t
      ∧ (∀ n : Station, t.members.entries[n] = absentEntry) ∧ t.members.repairFlag = false ∧ t.members.repairTimer = none
      ∧ t.members.orderDisagreements = s.members.orderDisagreements
      ∧ t.transfer.job = .idle ∧ t.transfer.pendingRegion = none ∧ (∀ n : Station, t.transfer.contexts[n] = none)
      ∧ t.transfer.regionDrops = s.transfer.regionDrops ∧ t.transfer.transferDrops = s.transfer.transferDrops
      ∧ t.scanner = s.scanner ∧ t.responder = none ∧ t.panel.queue = [] ∧ t.panel.pressDrops = s.panel.pressDrops
      ∧ t.panel.ack = s.panel.ack ∧ t.panel.silence = s.panel.silence ∧ t.panel.reset = s.panel.reset ∧ t.panel.test = s.panel.test
      ∧ t.timers.presencePending = false ∧ t.timers.t0 = .idle
      ∧ (TimersInv s →
          t.timers.t1 = s.timers.t1
            ∧ ((∃ p : PointIndex, isUsed s.cfg p = true ∧ s.cfg.controlSet.getLsbD s.cfg.points[p].group.val = true
                  ∧ (t.points[p].state = .alert ∨ t.points[p].state = .returned)) → t.timers.t2 = s.timers.t2)
            ∧ ((∀ p : PointIndex, isUsed s.cfg p = true → s.cfg.controlSet.getLsbD s.cfg.points[p].group.val = true →
                  ¬ (t.points[p].state = .alert ∨ t.points[p].state = .returned)) → t.timers.t2 = .idle)
            ∧ (hornDemand s.cfg t.points = true → t.timers.t3 = s.timers.t3)
            ∧ (hornDemand s.cfg t.points = false → t.timers.t3 = .idle))
      ∧ t.lamp = s.lamp ∧ KeepsSetup s t ∧ fltAsserted t = true

/-- The third echo mismatch in a row halts the station for a duplicate number, also when it is the sixteenth failure; both counts keep their
values, and every record, queue, entry and job stays as it stands (R46, R48, R101). -/
def Obligations.ThirdEchoMismatchHalts : Prop :=
  ∀ (s : State) (a : Attempt), transmits s.seq.state = true → s.line.attempt = some a → s.line.mismatches = 2 →
    ∃ t, exec .echoMismatch s = .next t
      ∧ t.seq = { s.seq with state := .halted, listenTimer := none, syncTimer := none }
      ∧ t.line = { s.line with
          attempt := none, drive := .recessive, holdOff := none, failures := s.line.failures + 1, mismatches := 3 }
      ∧ t.points = s.points ∧ t.members = { s.members with repairTimer := none } ∧ t.transfer = s.transfer ∧ t.scanner = s.scanner
      ∧ t.responder = s.responder ∧ t.panel.queue = s.panel.queue ∧ t.panel.pressDrops = s.panel.pressDrops
      ∧ t.timers.t0 = .idle ∧ t.timers.t1 = .idle ∧ t.timers.t2 = .idle ∧ t.timers.t3 = .idle
      ∧ t.timers.presencePending = s.timers.presencePending ∧ t.panel.horn = .silent
      ∧ t.lamp = { s.lamp with test := .idle } ∧ KeepsSetup s t ∧ fltAsserted t = true

/-- A frame of classes 0 to 6 that carries the station's own number and that it did not send halts it in place of every effect of the frame,
whatever the payload holds (R47, R48, R64, R101). -/
def Obligations.OwnNumberHeardHalts : Prop :=
  ∀ (s : State) (gap : Nat) (n : Station) (c : Instr), frameGap c = some gap → hears gap s = true → s.cfg.self = some n →
    isDeliveredFrame c = true →
    frameSender c = some (fieldOf n) →
    ∃ t, exec c s = .next t
      ∧ t.seq = { s.seq with state := .halted, listenTimer := none, syncTimer := none }
      ∧ t.line = { s.line with attempt := none, drive := .recessive, holdOff := none, awaitsGap := false }
      ∧ t.points = s.points ∧ t.members = { s.members with repairTimer := none } ∧ t.transfer = s.transfer ∧ t.scanner = s.scanner
      ∧ t.responder = s.responder ∧ t.panel.queue = s.panel.queue ∧ t.panel.pressDrops = s.panel.pressDrops
      ∧ t.panel.ack = restingButton ∧ t.panel.silence = restingButton ∧ t.panel.reset = restingButton ∧ t.panel.test = restingButton
      ∧ t.timers.t0 = .idle ∧ t.timers.t1 = .idle ∧ t.timers.t2 = .idle ∧ t.timers.t3 = .idle
      ∧ t.timers.presencePending = s.timers.presencePending ∧ t.panel.horn = .silent
      ∧ t.lamp = { s.lamp with test := .idle } ∧ KeepsSetup s t ∧ fltAsserted t = true

/-! ## The successful end of an own frame -/

/-- The station's own POINT frame writes its record, advances a valid count, removes the head report and tests reconciliation; both failure counts
are 0 and TRANSMIT is raised (R17, R41, R51, R124). The field raised is the model's own, assumption 19. -/
def Obligations.OwnPointFrameWritesAndLeavesTheQueue : Prop :=
  ∀ (s : State) (src : Source) (n : Station) (p : PointIndex) (w : WireRecord) (r : PointRecord) (d : Word),
    s.seq.state = .synced → s.line.attempt = some { source := src, content := .point p w d } → s.cfg.self = some n →
    s.loader.digest = some d → s.cfg.points[p].owner = some n → recordOfWire w = some r →
    ∃ t, exec .ownFrameSuccessfulEnd s = .next t
      ∧ t.points = writeRecord s.cfg s.points p r
      ∧ t.seq = { s.seq with
          orderCount := if s.seq.countValid then s.seq.orderCount + 1 else s.seq.orderCount, pointHeard := true }
      ∧ t.scanner = reconcileRounds s.cfg 24 { s.scanner with queue := s.scanner.queue.tail }
      ∧ t.raised = classTransmit ||| alertClasses s.cfg p s.points[p].state r.state
      ∧ t.line = { s.line with attempt := none, drive := .recessive, failures := 0, mismatches := 0 }
      ∧ t.members = { s.members with repairFlag := t.members.repairFlag } ∧ RepairTested s t
      ∧ t.transfer = s.transfer ∧ t.responder = s.responder ∧ t.lamp = s.lamp ∧ KeepsPanel s t ∧ KeepsSetup s t

/-- The station's own OPERATOR, PRESENCE, QUERY and REPLY frames remove the entry they came from at their successful end, and the OPERATOR frame
applies at the sender; both failure counts are 0, TRANSMIT is raised, and T0 counts from P again (R41, R51, R85, R140, R155). The field raised is
the model's own, assumption 19. -/
def Obligations.OwnFramesRemoveTheirEntries : Prop :=
  ∀ (s : State) (src : Source) (content : FrameContent) (d : Word), transmits s.seq.state = true → s.loader.digest = some d →
    s.line.attempt = some { source := src, content := content } →
    (∀ (op : Operation) (groups horizon : Word), content = .operator op groups horizon d →
      ∃ t, exec .ownFrameSuccessfulEnd s = .next t
        ∧ (∀ p : PointIndex,
            t.points[p]
              = if isUsed s.cfg p && groups.getLsbD s.cfg.points[p].group.val then
                  operate op horizon s.cfg.points[p].ringback s.points[p]
                else s.points[p])
        ∧ t.panel.queue = s.panel.queue.tail ∧ t.panel.pressDrops = s.panel.pressDrops ∧ t.panel.ack = s.panel.ack
        ∧ t.panel.silence = s.panel.silence ∧ t.panel.reset = s.panel.reset ∧ t.panel.test = s.panel.test
        ∧ t.timers.t0 = .counting s.cfg.presenceMs ∧ t.timers.presencePending = s.timers.presencePending
        ∧ t.raised = (classTransmit ||| classOperatorOwn) ||| classOperatorAny
        ∧ t.line = { s.line with attempt := none, drive := .recessive, failures := 0, mismatches := 0 }
        ∧ t.seq = s.seq ∧ t.transfer = s.transfer ∧ t.scanner = s.scanner ∧ t.responder = s.responder ∧ t.lamp = s.lamp
        ∧ t.members = { s.members with repairFlag := t.members.repairFlag } ∧ RepairTested s t ∧ KeepsSetup s t)
    ∧ (∀ (count : Option Word) (state : LineState), content = .presence d count state →
      ∃ t, exec .ownFrameSuccessfulEnd s = .next t ∧ t.timers.presencePending = false ∧ t.timers.t0 = .counting s.cfg.presenceMs
        ∧ t.raised = classTransmit
        ∧ t.line = { s.line with attempt := none, drive := .recessive, failures := 0, mismatches := 0 }
        ∧ t.points = s.points ∧ t.seq = s.seq ∧ t.transfer = s.transfer ∧ t.scanner = s.scanner ∧ t.responder = s.responder
        ∧ t.lamp = s.lamp ∧ t.members = { s.members with repairFlag := t.members.repairFlag } ∧ RepairTested s t
        ∧ KeepsPanel s t ∧ KeepsSetup s t)
    ∧ (∀ q : Query, content = .query q →
      ∃ t, exec .ownFrameSuccessfulEnd s = .next t
        ∧ t.members = { s.members with repairFlag := false, repairTimer := some (8 * s.cfg.presenceMs) }
        ∧ t.timers.t0 = .counting s.cfg.presenceMs
        ∧ t.raised = classTransmit
        ∧ t.line = { s.line with attempt := none, drive := .recessive, failures := 0, mismatches := 0 }
        ∧ t.points = s.points ∧ t.seq = s.seq ∧ t.transfer = s.transfer ∧ t.scanner = s.scanner ∧ t.responder = s.responder
        ∧ t.lamp = s.lamp ∧ t.timers.presencePending = s.timers.presencePending ∧ KeepsPanel s t ∧ KeepsSetup s t)
    ∧ (∀ (kind : ReplyKind) (requester : Byte) (body : List Byte), content = .reply kind requester body →
      ∃ t, exec .ownFrameSuccessfulEnd s = .next t ∧ t.responder = none ∧ t.raised = classTransmit
        ∧ t.timers.t0 = .counting s.cfg.presenceMs
        ∧ t.line = { s.line with attempt := none, drive := .recessive, failures := 0, mismatches := 0 }
        ∧ t.points = s.points ∧ t.seq = s.seq ∧ t.transfer = s.transfer ∧ t.scanner = s.scanner ∧ t.lamp = s.lamp
        ∧ t.members = { s.members with repairFlag := t.members.repairFlag } ∧ RepairTested s t
        ∧ t.timers.presencePending = s.timers.presencePending ∧ KeepsPanel s t ∧ KeepsSetup s t)

/-- The station's own JOIN brings it into SYNCING for 8P while a peer is STALE; else it passes on to SYNCED at once, founding its count when no
POINT frame was heard and no peer is PRESENT, and its announcement job starts (R94, R97, R98). The field raised is the model's own, assumption 19.
-/
def Obligations.OwnJoinEntersSyncingOrSynced : Prop :=
  ∀ (s : State) (src : Source) (d : Word) (reason : JoinReason), s.seq.state = .joining →
    s.line.attempt = some { source := src, content := .join d reason } →
    ∃ t, exec .ownFrameSuccessfulEnd s = .next t
      ∧ t.seq.joinPending = false ∧ t.points = s.points ∧ t.raised = classTransmit
      ∧ t.line = { s.line with attempt := none, drive := .recessive, failures := 0, mismatches := 0 }
      ∧ t.members = { s.members with repairFlag := t.members.repairFlag } ∧ RepairTested s t
      ∧ t.responder = s.responder ∧ t.lamp = s.lamp ∧ KeepsPanel s t ∧ KeepsSetup s t
      ∧ (anyStale s = true →
          t.seq = { s.seq with state := .syncing, joinPending := false, syncTimer := some (8 * s.cfg.presenceMs) }
            ∧ t.scanner = s.scanner ∧ t.transfer = s.transfer)
      ∧ (anyStale s = false →
          t.seq.state = .synced ∧ t.seq.syncTimer = none ∧ t.scanner = reconcileRounds s.cfg 24 s.scanner
            ∧ t.transfer = { s.transfer with job := .startPending wholeGrid, pendingRegion := none }
            ∧ (s.seq.countValid = true → t.seq.orderCount = s.seq.orderCount ∧ t.seq.countValid = true)
            ∧ (s.seq.countValid = false →
                ((s.seq.pointHeard = false ∧ ∀ n : Station, isPresent s n = false) →
                  t.seq.orderCount = 0 ∧ t.seq.countValid = true)
                ∧ ((s.seq.pointHeard = true ∨ ∃ n : Station, isPresent s n = true) →
                  t.seq.orderCount = s.seq.orderCount ∧ t.seq.countValid = false)))

/-- The station's own START and DATA parts move its job: to the first own point of the window with part 1, past the points sent, or to its end,
where the job takes the window of the pending-region slot (R106, R107, R108). The field raised is the model's own, assumption 19. -/
def Obligations.OwnSnapshotAdvancesTheJob : Prop :=
  ∀ (s : State) (src : Source) (content : FrameContent), transmits s.seq.state = true →
    s.line.attempt = some { source := src, content := content } → classOf content = .snapshot →
    ∃ t, exec .ownFrameSuccessfulEnd s = .next t
      ∧ t.transfer.contexts = s.transfer.contexts ∧ t.transfer.regionDrops = s.transfer.regionDrops
      ∧ t.transfer.transferDrops = s.transfer.transferDrops
      ∧ t.points = s.points ∧ t.seq = s.seq ∧ t.scanner = s.scanner ∧ t.responder = s.responder ∧ t.lamp = s.lamp
      ∧ t.raised = classTransmit
      ∧ t.line = { s.line with attempt := none, drive := .recessive, failures := 0, mismatches := 0 }
      ∧ t.members = { s.members with repairFlag := t.members.repairFlag } ∧ RepairTested s t ∧ KeepsPanel s t ∧ KeepsSetup s t
      ∧ (∀ (w : Window) (p : PointIndex) (rest : List PointIndex), s.transfer.job = .startPending w →
          (allPoints.filter fun q => isOwn s.cfg q && inWindow w q) = p :: rest →
          t.transfer.job = .dataPending w (some p) 1 (rest.length + 1) ∧ t.transfer.pendingRegion = s.transfer.pendingRegion)
      ∧ (∀ (w : Window) (c : PointIndex) (part remaining : Nat), s.transfer.job = .dataPending w (some c) part remaining → 3 < remaining →
          t.transfer.job
              = .dataPending w ((allPoints.filter fun q => isOwn s.cfg q && inWindow w q && c ≤ q).drop 3).head? (part + 1) (remaining - 3)
            ∧ t.transfer.pendingRegion = s.transfer.pendingRegion)
      ∧ (((∃ w : Window, s.transfer.job = .startPending w ∧ ∀ q : PointIndex, isOwn s.cfg q = true → inWindow w q = false)
            ∨ ∃ (w : Window) (c : Option PointIndex) (part remaining : Nat),
                s.transfer.job = .dataPending w c part remaining ∧ remaining ≤ 3) →
          (s.transfer.pendingRegion = none → t.transfer.job = .idle ∧ t.transfer.pendingRegion = none)
          ∧ ∀ w : Window, s.transfer.pendingRegion = some w → t.transfer.job = .startPending w ∧ t.transfer.pendingRegion = none)

/-! ## Faulty, voided and unreachable frames -/

/-- A faulty frame is discarded, signalled, and counted as one void driven, up to 255; a voided frame is discarded and counts nowhere; a class 7
frame is discarded, also when it carries the station's own number. A station in OFF, WITHDRAWN or HALTED receives nothing: no frame, fault or void
changes it. One that began to receive and has seen no idle gap of 11 bit times yet neither receives, voids nor fault-marks a frame, until the
first whose start bit follows such a gap (R35, R36, R39, R40, R88). That an own attempt is over by then is the model's deduction, assumption 5. The
field raised is the model's own, assumption 19, and so is that a void leaves a station awaiting the gap, assumption 26. -/
def Obligations.DiscardedFramesReachNoConsumer : Prop :=
  (∀ (s : State) (gap : Nat), hears gap s = true ↔ receives s.seq.state = true ∧ (s.line.awaitsGap = false ∨ 11 ≤ gap))
  ∧ (∀ (s : State) (gap : Nat) (fault : LineFault) (sender : StationField) (payload : List Byte), hears gap s = true →
     (∃ t, exec (.faultyFrameReceived ⟨gap, fault⟩) s = .next t
       ∧ t = ((s.setLine { s.line with
                 attempt := none
                 awaitsGap := false
                 drive := (if fault = .codingBreak ∨ fault = .lengthFault then .faultMark else .void)
                 voidsDriven := if s.line.voidsDriven = 255 then 255 else s.line.voidsDriven + 1 }).setRaised 0).setMembers t.members
       ∧ t.members = { s.members with repairFlag := t.members.repairFlag } ∧ RepairTested s t)
     ∧ ∃ t, exec (.unassignedFrame ⟨gap, sender⟩ payload) s = .next t
         ∧ t = ((s.setLine { s.line with attempt := none, drive := .recessive, awaitsGap := false }).setRaised 0).setMembers t.members
         ∧ t.members = { s.members with repairFlag := t.members.repairFlag } ∧ RepairTested s t)
  ∧ (∀ s : State, receives s.seq.state = true → s.line.awaitsGap = false →
     ∃ t, exec .voidSeen s = .next t
       ∧ t = ((s.setLine { s.line with attempt := none, drive := .recessive }).setRaised 0).setMembers t.members
       ∧ t.members = { s.members with repairFlag := t.members.repairFlag } ∧ RepairTested s t)
  ∧ (∀ (s : State) (c : Instr), receives s.seq.state = false → (frameGap c).isSome = true ∨ c = .voidSeen → exec c s = .next s)
  ∧ (∀ (s : State) (c : Instr), s.line.awaitsGap = true → (∃ gap, frameGap c = some gap ∧ gap < 11) ∨ c = .voidSeen →
     exec c s = .next s)

/-! ## Received frames -/

/-- A POINT frame of another station with the receiver's digest, from the point's configured owner, is written, the tie rule after it; a valid
count advances by 1, the POINT-heard flag is set, the sender's entry goes from ABSENT or MISMATCH to STALE, and ALERT_ANY and ALERT_SET are raised
as R30 says. The field raised is the model's own, assumption 19. That an own attempt is over by then is the model's deduction, assumption 5. -/
def Obligations.PointFrameIsWritten : Prop :=
  ∀ (s : State) (gap : Nat) (n : Station) (p : PointIndex) (w : WireRecord) (r : PointRecord) (d : Word), hears gap s = true →
    s.cfg.self ≠ some n → s.loader.digest = some d → s.cfg.points[p].owner = some n → recordOfWire w = some r →
    ∃ t, exec (.pointFrame ⟨gap, fieldOf n⟩ (buildPayload (.point p w d))) s = .next t
      ∧ t.points = writeRecord s.cfg s.points p r
      ∧ t.seq.orderCount = (if s.seq.countValid then s.seq.orderCount + 1 else s.seq.orderCount)
      ∧ t.seq.countValid = s.seq.countValid ∧ t.seq.pointHeard = true
      ∧ t.members.entries[n]
          = { state :=
                if s.members.entries[n].state = .absent ∨ s.members.entries[n].state = .mismatch then .stale else s.members.entries[n].state
              ageMs := 0, lastDigest := some d }
      ∧ KeepsOtherEntries n s t ∧ t.members.orderDisagreements = s.members.orderDisagreements
      ∧ t.raised
          = (if s.members.entries[n].state = .absent ∨ s.members.entries[n].state = .mismatch then classMembership else 0)
              ||| (if r.state = .alert ∧ s.points[p].state ≠ .alert then
                    (if inControlSet s.cfg p then classAlertAny ||| classAlertSet else classAlertAny)
                  else 0)
      ∧ (s.seq.state ≠ .syncing → t.transfer = s.transfer) ∧ t.responder = s.responder ∧ FrameKeeps s t ∧ RepairTested s t

/-- A POINT frame that is not written still counts: one of another digest moves its sender to MISMATCH and marks its points LOST; one from a
station that does not own the point, or whose record names LOST or no state, changes no record (R16, R18, R75). That an own attempt is over by
then is the model's deduction, assumption 5. -/
def Obligations.UnwrittenPointFrameStillCounts : Prop :=
  ∀ (s : State) (gap : Nat) (n : Station) (p : PointIndex) (w : WireRecord) (d carried : Word), hears gap s = true →
    s.cfg.self ≠ some n → s.loader.digest = some d →
    (carried ≠ d ∨ s.cfg.points[p].owner ≠ some n ∨ w.code = 5 ∨ w.code = 6 ∨ w.code = 7) →
    ∃ t, exec (.pointFrame ⟨gap, fieldOf n⟩ (buildPayload (.point p w carried))) s = .next t
      ∧ t.seq.pointHeard = true ∧ KeepsOtherEntries n s t ∧ t.responder = s.responder ∧ FrameKeeps s t ∧ RepairTested s t
      ∧ (t.seq.orderCount = (if s.seq.countValid then s.seq.orderCount + 1 else s.seq.orderCount))
      ∧ t.seq.countValid = s.seq.countValid
      ∧ (carried = d →
          t.points = s.points
            ∧ t.members.entries[n]
                = { state :=
                      if s.members.entries[n].state = .absent ∨ s.members.entries[n].state = .mismatch then .stale
                      else s.members.entries[n].state
                    ageMs := 0, lastDigest := some d })
      ∧ (carried ≠ d →
          t.members.entries[n] = { state := .mismatch, ageMs := 0, lastDigest := some carried }
            ∧ (s.members.entries[n].state = .mismatch → t.points = s.points)
            ∧ (s.members.entries[n].state ≠ .mismatch → LosesPointsOf n s t ∧ t.transfer.contexts[n] = none))

/-- An OPERATOR frame of any other sender with the receiver's digest applies its operation to every used point of the groups named, whatever state
the sender's entry is in, raises OPERATOR_ANY, and takes an ABSENT or MISMATCH entry to STALE; one of another digest applies to no point, makes its
numbered sender MISMATCH and, unless it was, loses it: its points are LOST and its context is closed with no drop counted (R19, R30, R75, R79). The
field raised is the model's own, assumption 19. That an own attempt is over by then is the model's deduction, assumption 5. -/
def Obligations.OperatorFrameIsAppliedByDigestAlone : Prop :=
  ∀ (s : State) (gap : Nat) (sender : StationField) (op : Operation) (groups horizon d carried : Word), hears gap s = true →
    ownField s ≠ some sender → s.loader.digest = some d →
    ∃ t, exec (.operatorFrame ⟨gap, sender⟩ (buildPayload (.operator op groups horizon carried))) s = .next t
      ∧ t.responder = s.responder ∧ FrameKeeps s t ∧ RepairTested s t ∧ t.transfer.transferDrops = s.transfer.transferDrops
      ∧ t.members.orderDisagreements = s.members.orderDisagreements ∧ (s.seq.state ≠ .syncing → KeepsJob s t ∧ KeepsOrder s t)
      ∧ (carried = d →
          (∀ p : PointIndex,
            t.points[p]
              = if isUsed s.cfg p && groups.getLsbD s.cfg.points[p].group.val then
                  operate op horizon s.cfg.points[p].ringback s.points[p]
                else s.points[p])
          ∧ t.raised &&& classOperatorAny = classOperatorAny
          ∧ ∀ n : Station,
              t.members.entries[n]
                = if stationOfField sender = some n then
                    { state :=
                        if s.members.entries[n].state = .absent ∨ s.members.entries[n].state = .mismatch then .stale
                        else s.members.entries[n].state
                      ageMs := 0, lastDigest := some d }
                  else s.members.entries[n])
      ∧ (carried = d → t.transfer.contexts = s.transfer.contexts)
      ∧ (carried ≠ d →
          t.raised &&& classOperatorAny = 0
          ∧ (∀ n : Station,
              t.members.entries[n]
                = if stationOfField sender = some n then { state := .mismatch, ageMs := 0, lastDigest := some carried }
                  else s.members.entries[n])
          ∧ (∀ n : Station,
              t.transfer.contexts[n]
                = if stationOfField sender = some n ∧ s.members.entries[n].state ≠ .mismatch then none else s.transfer.contexts[n])
          ∧ ∀ p : PointIndex,
              t.points[p]
                = if (∃ n : Station, stationOfField sender = some n ∧ s.cfg.points[p].owner = some n
                      ∧ s.members.entries[n].state ≠ .mismatch) then lose s.points[p]
                  else s.points[p])

/-- A JOIN with the receiver's digest makes its sender JOINING and keeps its points, and a SYNCED receiver answers with a whole-grid job that
empties the pending-region slot; one of another digest makes it MISMATCH, a loss unless it was, and starts no job (R73, R79, R95, R105). That an
own attempt is over by then is the model's deduction, assumption 5. -/
def Obligations.JoinFrameMovesItsSenderAndIsAnswered : Prop :=
  ∀ (s : State) (gap : Nat) (n : Station) (reason : JoinReason) (d carried : Word), hears gap s = true → s.cfg.self ≠ some n →
    s.loader.digest = some d →
    ∃ t, exec (.joinFrame ⟨gap, fieldOf n⟩ (buildPayload (.join carried reason))) s = .next t
      ∧ KeepsOtherEntries n s t ∧ t.responder = s.responder ∧ FrameKeeps s t ∧ RepairTested s t
      ∧ t.transfer.regionDrops = s.transfer.regionDrops ∧ t.transfer.transferDrops = s.transfer.transferDrops
      ∧ (s.seq.state ≠ .syncing → KeepsOrder s t)
      ∧ (carried = d →
          t.members.entries[n] = { state := .joining, ageMs := 0, lastDigest := some d } ∧ t.points = s.points
            ∧ t.transfer.contexts = s.transfer.contexts
            ∧ (s.seq.state = .synced → t.transfer.job = .startPending wholeGrid ∧ t.transfer.pendingRegion = none)
            ∧ (s.seq.state ≠ .synced → s.seq.state ≠ .syncing → t.transfer = s.transfer))
      ∧ (carried ≠ d →
          t.members.entries[n] = { state := .mismatch, ageMs := 0, lastDigest := some carried }
            ∧ (s.seq.state ≠ .syncing → KeepsJob s t)
            ∧ (s.members.entries[n].state = .mismatch → t.points = s.points)
            ∧ (s.members.entries[n].state ≠ .mismatch → LosesPointsOf n s t ∧ t.transfer.contexts[n] = none))

/-- A START with the receiver's digest opens or resets the sender's context, or leaves it CLOSED for a total of 0, serves adoption, and moves the
entry; one of another digest closes the context and makes the sender MISMATCH; neither counts a drop (R75, R82, R110). That a count is adopted
ahead of an entry to SYNCED that the same frame brings is the model's deduction, assumption 7; that an own attempt is over by then, assumption 5. -/
def Obligations.StartOpensTheSendersContext : Prop :=
  ∀ (s : State) (gap : Nat) (n : Station) (w : Window) (total : Nat) (count : Option Word) (d carried : Word), hears gap s = true →
    s.cfg.self ≠ some n → s.loader.digest = some d → windowValid w = true → total ≤ 32 →
    ∃ t, exec (.snapshotStart ⟨gap, fieldOf n⟩ (buildPayload (.start w total count carried))) s = .next t
      ∧ KeepsOtherEntries n s t ∧ t.responder = s.responder ∧ FrameKeeps s t ∧ RepairTested s t
      ∧ t.transfer.transferDrops = s.transfer.transferDrops ∧ (s.seq.state ≠ .syncing → KeepsJob s t)
      ∧ (∀ m : Station, m ≠ n → t.transfer.contexts[m] = s.transfer.contexts[m])
      ∧ (carried = d →
          t.points = s.points
          ∧ t.transfer.contexts[n]
              = (if total = 0 then none
                 else some { window := w, fullWindow := w == wholeGrid
                             cursor := (allPoints.filter fun p => s.cfg.points[p].owner == some n && inWindow w p).head?
                             expectedPart := 1, remaining := total })
          ∧ t.members.entries[n]
              = { state :=
                    if w = wholeGrid ∧ total = 0 then .present
                    else if s.members.entries[n].state = .absent ∨ s.members.entries[n].state = .mismatch then .stale
                    else s.members.entries[n].state
                  ageMs := 0, lastDigest := some d }
          ∧ (s.seq.countValid = false → ∀ c : Word, count = some c → t.seq.orderCount = c ∧ t.seq.countValid = true)
          ∧ (s.seq.countValid = true ∨ count = none → t.seq.orderCount = s.seq.orderCount ∧ t.seq.countValid = s.seq.countValid))
      ∧ (carried ≠ d →
          t.transfer.contexts[n] = none
          ∧ t.members.entries[n] = { state := .mismatch, ageMs := 0, lastDigest := some carried }
          ∧ (s.seq.state ≠ .syncing → KeepsOrder s t)
          ∧ (s.members.entries[n].state = .mismatch → t.points = s.points)
          ∧ (s.members.entries[n].state ≠ .mismatch → LosesPointsOf n s t))

/-- A DATA part that agrees with the sender's open context is written record by record from the cursor, the tie rule after each, a record that
names LOST or no state passed over; the last part closes the context. The part takes an ABSENT sender to STALE, and a full window's last part a
JOINING or STALE one to PRESENT (R20, R76, R111). That an own attempt is over by then is the model's deduction, assumption 5. -/
def Obligations.DataPartIsWrittenFromTheCursor : Prop :=
  ∀ (s : State) (gap : Nat) (n : Station) (x : ReceiveContext) (c : PointIndex) (last : Bool) (records : List WireRecord) (d : Word),
    hears gap s = true → s.cfg.self ≠ some n → s.loader.digest = some d → s.transfer.contexts[n] = some x →
    x.cursor = some c → s.members.entries[n].lastDigest = some d → 1 ≤ x.expectedPart → x.expectedPart ≤ 11 →
    1 ≤ records.length → records.length ≤ 3 → records.length ≤ x.remaining →
    records.length ≤ (allPoints.filter fun p => s.cfg.points[p].owner == some n && inWindow x.window p && c ≤ p).length →
    (last = true ↔ records.length = x.remaining) →
    ∃ t, exec (.snapshotData ⟨gap, fieldOf n⟩ (buildPayload (.data x.expectedPart last records))) s = .next t
      ∧ t.points
          = ((allPoints.filter fun p => s.cfg.points[p].owner == some n && inWindow x.window p && c ≤ p).zip records).foldl
              (fun table pw =>
                match recordOfWire pw.2 with
                | none => table
                | some r => writeRecord s.cfg table pw.1 r)
              s.points
      ∧ t.transfer.contexts[n]
          = (if last then none
             else some { x with
                cursor :=
                  ((allPoints.filter fun p => s.cfg.points[p].owner == some n && inWindow x.window p && c ≤ p).drop records.length).head?
                expectedPart := x.expectedPart + 1, remaining := x.remaining - records.length })
      ∧ (∀ m : Station, m ≠ n → t.transfer.contexts[m] = s.transfer.contexts[m])
      ∧ t.transfer.transferDrops = s.transfer.transferDrops ∧ (s.seq.state ≠ .syncing → KeepsJob s t ∧ KeepsOrder s t)
      ∧ t.members.entries[n]
          = { state :=
                if s.members.entries[n].state = .absent then .stale
                else if (s.members.entries[n].state = .joining ∨ s.members.entries[n].state = .stale) ∧ last = true ∧ x.fullWindow = true then
                  .present
                else s.members.entries[n].state
              ageMs := 0, lastDigest := some d }
      ∧ KeepsOtherEntries n s t ∧ t.responder = s.responder ∧ FrameKeeps s t ∧ RepairTested s t

/-- A DATA part with no open context, or that disagrees with it in part number, record count, points left or last flag, writes nothing, closes the
context and counts one transfer drop, up to 255; a matching one still takes an ABSENT sender to STALE (R76, R112). That an own attempt is over by
then is the model's deduction, assumption 5. -/
def Obligations.RefusedDataPartCountsOneDrop : Prop :=
  ∀ (s : State) (gap : Nat) (n : Station) (part : Nat) (last : Bool) (records : List WireRecord), hears gap s = true →
    s.cfg.self ≠ some n → 1 ≤ part → part ≤ 11 → 1 ≤ records.length → records.length ≤ 3 →
    (s.transfer.contexts[n] = none
      ∨ ∃ x : ReceiveContext, s.transfer.contexts[n] = some x
          ∧ (part ≠ x.expectedPart ∨ x.remaining < records.length ∨ (last = true ∧ records.length ≠ x.remaining)
              ∨ (last = false ∧ records.length = x.remaining) ∨ x.cursor = none
              ∨ ∃ c : PointIndex, x.cursor = some c
                  ∧ (allPoints.filter fun p => s.cfg.points[p].owner == some n && inWindow x.window p && c ≤ p).length
                      < records.length)) →
    ∃ t, exec (.snapshotData ⟨gap, fieldOf n⟩ (buildPayload (.data part last records))) s = .next t
      ∧ t.points = s.points ∧ t.transfer.contexts[n] = none
      ∧ (∀ m : Station, m ≠ n → t.transfer.contexts[m] = s.transfer.contexts[m])
      ∧ t.transfer.transferDrops = (if s.transfer.transferDrops = 255 then 255 else s.transfer.transferDrops + 1)
      ∧ (s.seq.state ≠ .syncing → KeepsJob s t ∧ KeepsOrder s t)
      ∧ t.members.entries[n]
          = { s.members.entries[n] with
              state :=
                if s.members.entries[n].state = .absent ∧ s.members.entries[n].lastDigest.isSome = true
                    ∧ s.members.entries[n].lastDigest = s.loader.digest then .stale
                else s.members.entries[n].state
              ageMs := 0 }
      ∧ KeepsOtherEntries n s t ∧ t.responder = s.responder ∧ FrameKeeps s t ∧ RepairTested s t

/-- A PRESENCE with the receiver's digest makes a SYNCED sender STALE unless it is PRESENT, and any other sender JOINING; it serves adoption by a
station without a count, and a SYNCED station counts a disagreement with a PRESENT, SYNCED peer; another digest makes it MISMATCH (R74, R82, R83).
That a count is adopted ahead of an entry to SYNCED that the same frame brings is the model's deduction, assumption 7; that an own attempt is
over by then, assumption 5. -/
def Obligations.PresenceMovesItsSenderAndComparesCounts : Prop :=
  ∀ (s : State) (gap : Nat) (n : Station) (count : Option Word) (peer : LineState) (d carried : Word), hears gap s = true →
    s.cfg.self ≠ some n → s.loader.digest = some d →
    ∃ t, exec (.presenceFrame ⟨gap, fieldOf n⟩ (buildPayload (.presence carried count peer))) s = .next t
      ∧ KeepsOtherEntries n s t ∧ t.responder = s.responder ∧ FrameKeeps s t ∧ RepairTested s t
      ∧ (s.seq.state ≠ .syncing → KeepsJob s t)
      ∧ (carried = d →
          t.points = s.points ∧ t.transfer.contexts = s.transfer.contexts
          ∧ t.members.entries[n]
              = { state := if peer = .synced then (if s.members.entries[n].state = .present then .present else .stale) else .joining
                  ageMs := 0, lastDigest := some d }
          ∧ (s.seq.countValid = false → ∀ c : Word, count = some c → t.seq.orderCount = c ∧ t.seq.countValid = true)
          ∧ (s.seq.countValid = true → t.seq.orderCount = s.seq.orderCount ∧ t.seq.countValid = true)
          ∧ t.members.orderDisagreements
              = (if s.seq.state = .synced ∧ s.seq.countValid = true ∧ peer = .synced ∧ s.members.entries[n].state = .present
                    ∧ count ≠ some s.seq.orderCount then
                  (if s.members.orderDisagreements = 255 then 255 else s.members.orderDisagreements + 1)
                else s.members.orderDisagreements))
      ∧ (carried ≠ d →
          t.members.entries[n] = { state := .mismatch, ageMs := 0, lastDigest := some carried }
          ∧ t.members.orderDisagreements = s.members.orderDisagreements
          ∧ (s.seq.state ≠ .syncing → KeepsOrder s t)
          ∧ (s.members.entries[n].state = .mismatch → t.points = s.points)
          ∧ (s.members.entries[n].state ≠ .mismatch → LosesPointsOf n s t ∧ t.transfer.contexts[n] = none))

/-- Frames signed 0 or 31 reach no membership entry and no receive context, and serve neither adoption nor the responder rule; a POINT frame of
such a sender still counts (R16, R70, R82, R95, R109). That an own attempt is over by then is the model's deduction, assumption 5. -/
def Obligations.UnnumberedSendersReachNoEntry : Prop :=
  ∀ (s : State) (gap : Nat) (sender : StationField) (c : Instr), frameGap c = some gap → hears gap s = true → stationOfField sender = none →
    ownField s ≠ some sender → movesMembership c = true → frameSender c = some sender →
    ∃ t, exec c s = .next t ∧ t.members.entries = s.members.entries ∧ t.transfer = s.transfer
      ∧ t.members.orderDisagreements = s.members.orderDisagreements ∧ t.responder = s.responder ∧ FrameKeeps s t ∧ RepairTested s t
      ∧ t.seq.countValid = s.seq.countValid ∧ t.seq.state = s.seq.state
      ∧ ((∃ payload, c = .operatorFrame ⟨gap, sender⟩ payload) ∨ t.points = s.points)
      ∧ ((∃ payload, c = .pointFrame ⟨gap, sender⟩ payload) → t.seq.pointHeard = true
          ∧ t.seq.orderCount = (if s.seq.countValid then s.seq.orderCount + 1 else s.seq.orderCount))
      ∧ ((∃ payload, c = .pointFrame ⟨gap, sender⟩ payload) ∨ KeepsOrder s t)

/-- A malformed frame writes and applies nothing and moves no entry: a POINT still counts, a SNAPSHOT of a numbered sender closes its context and
counts one transfer drop, and of the others nothing is taken but that the sender was heard; malformed are exactly the payloads that the table of
R63 names, with R61 for a QUERY (R61, R63, R64). The field raised is the model's own, assumption 19. That an own attempt is over by then is the
model's deduction, assumption 5. -/
def Obligations.MalformedFramesWriteNothing : Prop :=
  (∀ p : List Byte,
    (readPayload .point p = none ↔ p.length ≠ 7)
    ∧ (readPayload .operator p = none ↔ p.length ≠ 7 ∨ (p.getD 0 0 ≠ 1 ∧ p.getD 0 0 ≠ 2 ∧ p.getD 0 0 ≠ 3))
    ∧ (readPayload .join p = none ↔ p.length ≠ 3 ∨ (p.getD 2 0 ≠ 1 ∧ p.getD 2 0 ≠ 2 ∧ p.getD 2 0 ≠ 3))
    ∧ (readPayload .snapshot p = none ↔
        p.length = 0 ∨ 11 < (p.getD 0 0).toNat
        ∨ (p.getD 0 0 = 0 ∧
            (p.length ≠ 11 ∨ (p.getD 3 0).toNat < (p.getD 2 0).toNat ∨ 15 < (p.getD 3 0).toNat
              ∨ (p.getD 5 0).toNat < (p.getD 4 0).toNat ∨ 15 < (p.getD 5 0).toNat ∨ 32 < (p.getD 6 0).toNat
              ∨ ((p.getD 1 0).getLsbD 0 = true ∧ p.getD 6 0 ≠ 0) ∨ ((p.getD 1 0).getLsbD 0 = false ∧ p.getD 6 0 = 0)))
        ∨ (p.getD 0 0 ≠ 0 ∧ p.length ≠ 6 ∧ p.length ≠ 10 ∧ p.length ≠ 14))
    ∧ (readPayload .presence p = none ↔ p.length ≠ 5 ∨ (p.getD 4 0).toNat % 8 = 7)
    ∧ (readPayload .query p = none ↔
        p.length = 0 ∨ p.getD 0 0 = 0 ∨ 5 ≤ (p.getD 0 0).toNat
        ∨ ((p.getD 0 0 = 1 ∨ p.getD 0 0 = 4) ∧ p.length ≠ 2) ∨ (p.getD 0 0 = 2 ∧ p.length ≠ 3) ∨ (p.getD 0 0 = 3 ∧ p.length ≠ 6)
        ∨ 31 ≤ (p.getD 1 0).toNat ∨ (p.getD 0 0 = 2 ∧ 2 ≤ (p.getD 2 0).toNat))
    ∧ (readPayload .reply p = none ↔ (p.length ≠ 11 ∧ p.length ≠ 16) ∨ (p.getD 0 0 ≠ 1 ∧ p.getD 0 0 ≠ 2)))
  ∧ ∀ (s : State) (gap : Nat) (sender : StationField) (payload : List Byte), hears gap s = true → ownField s ≠ some sender →
    (readPayload .point payload = none →
      ∃ t, exec (.pointFrame ⟨gap, sender⟩ payload) s = .next t
        ∧ t.seq = { s.seq with
            orderCount := if s.seq.countValid then s.seq.orderCount + 1 else s.seq.orderCount, pointHeard := true }
        ∧ AgeReset sender s t ∧ t.points = s.points ∧ t.transfer = s.transfer ∧ t.scanner = s.scanner ∧ t.responder = s.responder
        ∧ t.raised = 0 ∧ KeepsSetup s t ∧ KeepsPanel s t ∧ KeepsCounts s t ∧ t.lamp = s.lamp ∧ RepairTested s t)
    ∧ (readPayload .snapshot payload = none → ∀ n : Station, stationOfField sender = some n →
      ∀ c : Instr, c = .snapshotStart ⟨gap, sender⟩ payload ∨ c = .snapshotData ⟨gap, sender⟩ payload →
      ∃ t, exec c s = .next t ∧ t.transfer.contexts[n] = none
        ∧ (∀ m : Station, m ≠ n → t.transfer.contexts[m] = s.transfer.contexts[m])
        ∧ t.transfer.transferDrops = (if s.transfer.transferDrops = 255 then 255 else s.transfer.transferDrops + 1) ∧ KeepsJob s t
        ∧ AgeReset sender s t ∧ t.points = s.points ∧ t.seq = s.seq ∧ t.scanner = s.scanner ∧ t.responder = s.responder
        ∧ t.raised = 0 ∧ FrameKeeps s t ∧ RepairTested s t)
    ∧ (readPayload .snapshot payload = none → stationOfField sender = none →
      ∃ t, exec (.snapshotData ⟨gap, sender⟩ payload) s = .next t ∧ OnlyHeard sender s t)
    ∧ (readPayload .operator payload = none → ∃ t, exec (.operatorFrame ⟨gap, sender⟩ payload) s = .next t ∧ OnlyHeard sender s t)
    ∧ (readPayload .join payload = none → ∃ t, exec (.joinFrame ⟨gap, sender⟩ payload) s = .next t ∧ OnlyHeard sender s t)
    ∧ (readPayload .presence payload = none → ∃ t, exec (.presenceFrame ⟨gap, sender⟩ payload) s = .next t ∧ OnlyHeard sender s t)
    ∧ (readPayload .query payload = none → ∀ c : Instr,
        (c = .queryStatus ⟨gap, sender⟩ payload ∨ c = .queryMembers ⟨gap, sender⟩ payload ∨ c = .queryRegion ⟨gap, sender⟩ payload
          ∨ c = .queryRestart ⟨gap, sender⟩ payload) →
        ∃ t, exec c s = .next t ∧ OnlyHeard sender s t)
    ∧ (readPayload .reply payload = none → ∃ t, exec (.replyFrame ⟨gap, sender⟩ payload) s = .next t ∧ OnlyHeard sender s t)

/-! ## Queries and replies -/

/-- A STATUS or MEMBERS query for this station fills the reply slot, in place of any request it held, from any sender; one for another station or
for target 0 is ignored, and of a REPLY nothing is taken; each is heard from its sender (R77, R177, R178, R186). The field raised is the model's
own, assumption 19. That an own attempt is over by then is the model's deduction, assumption 5. -/
def Obligations.QueriesFillTheReplySlot : Prop :=
  ∀ (s : State) (gap : Nat) (sender : StationField) (target : Fin 31) (half : Bool) (kind : ReplyKind) (requester : Byte) (body : List Byte),
    hears gap s = true → ownField s ≠ some sender → (body.length = 9 ∨ body.length = 14) →
    ((∃ n : Station, s.cfg.self = some n ∧ numberOf n = target.val) →
      (∃ t, exec (.queryStatus ⟨gap, sender⟩ (buildPayload (.query (.status target)))) s = .next t
        ∧ t.responder = some { kind := .status, requester := sender, secondHalf := false }
        ∧ OnlyHeard sender (s.setResponder t.responder) t)
      ∧ ∃ t, exec (.queryMembers ⟨gap, sender⟩ (buildPayload (.query (.members target half)))) s = .next t
        ∧ t.responder = some { kind := .members, requester := sender, secondHalf := half }
        ∧ OnlyHeard sender (s.setResponder t.responder) t)
    ∧ ((∀ n : Station, s.cfg.self = some n → numberOf n ≠ target.val) →
      (∃ t, exec (.queryStatus ⟨gap, sender⟩ (buildPayload (.query (.status target)))) s = .next t ∧ OnlyHeard sender s t)
      ∧ (∃ t, exec (.queryMembers ⟨gap, sender⟩ (buildPayload (.query (.members target half)))) s = .next t ∧ OnlyHeard sender s t)
      ∧ ∃ t, exec (.queryRestart ⟨gap, sender⟩ (buildPayload (.query (.restart target)))) s = .next t ∧ OnlyHeard sender s t)
    ∧ ∃ t, exec (.replyFrame ⟨gap, sender⟩ (buildPayload (.reply kind requester body))) s = .next t ∧ OnlyHeard sender s t

/-- A REGION query for this station or for all: a SYNCED station with its job IDLE starts it, one with its job busy holds the window in the slot
and counts a region drop only when it replaces one, and an invalid window or a station not SYNCED counts a drop (R105, R106, R182). The field
raised is the model's own, assumption 19. That an own attempt is over by then is the model's deduction, assumption 5. -/
def Obligations.RegionQueryStartsOrWaitsOrDrops : Prop :=
  ∀ (s : State) (gap : Nat) (sender : StationField) (target : Fin 31) (w : Window), hears gap s = true → ownField s ≠ some sender →
    windowFits w = true →
    ∃ t, exec (.queryRegion ⟨gap, sender⟩ (buildPayload (.query (.region target w)))) s = .next t
      ∧ OnlyHeard sender (s.setTransfer t.transfer) t
      ∧ t.transfer.contexts = s.transfer.contexts ∧ t.transfer.transferDrops = s.transfer.transferDrops
      ∧ ((target.val ≠ 0 ∧ ∀ n : Station, s.cfg.self = some n → numberOf n ≠ target.val) → t.transfer = s.transfer)
      ∧ ((target.val = 0 ∨ ∃ n : Station, s.cfg.self = some n ∧ numberOf n = target.val) →
          ((s.seq.state ≠ .synced ∨ windowValid w = false) →
            t.transfer.job = s.transfer.job ∧ t.transfer.pendingRegion = s.transfer.pendingRegion
              ∧ t.transfer.regionDrops = (if s.transfer.regionDrops = 255 then 255 else s.transfer.regionDrops + 1))
          ∧ (s.seq.state = .synced → windowValid w = true → s.transfer.job = .idle →
              t.transfer = { s.transfer with job := .startPending w })
          ∧ (s.seq.state = .synced → windowValid w = true → s.transfer.job ≠ .idle →
              t.transfer.job = s.transfer.job ∧ t.transfer.pendingRegion = some w
                ∧ t.transfer.regionDrops
                    = (if s.transfer.pendingRegion.isSome then
                        (if s.transfer.regionDrops = 255 then 255 else s.transfer.regionDrops + 1)
                      else s.transfer.regionDrops)))

/-- A RESTART query for this station restarts it softly: the effects of R102, the report queue re-based on the own points by R129, timers T1 to
T3 out of force (R162); the own points, the configuration, the counts and every diagnostic counter are kept. -/
def Obligations.RestartQueryRestartsSoftly : Prop :=
  ∀ (s : State) (gap : Nat) (sender : StationField) (n : Station) (target : Fin 31), hears gap s = true → ownField s ≠ some sender →
    s.cfg.self = some n → numberOf n = target.val →
    ∃ t, exec (.queryRestart ⟨gap, sender⟩ (buildPayload (.query (.restart target)))) s = .next t
      ∧ t.seq = { state := .listening, joinReason := .softRestart, listenTimer := some (2 * s.cfg.presenceMs), syncTimer := none,
                  joinPending := false, orderCount := 0, countValid := false, pointHeard := false }
      ∧ LosesOthers s t
      ∧ t.scanner.queue = []
      ∧ (∀ l : InputLine, t.scanner.lines[l].debouncer = s.scanner.lines[l].debouncer)
      ∧ (∀ (l : InputLine) (p : PointIndex) (level : Level), pointOfLine s.cfg l = some p → impliedLevel s.points[p].state = some level →
          t.scanner.lines[l].reported = level)
      ∧ t.panel.queue = [] ∧ t.panel.ack = s.panel.ack ∧ t.panel.silence = s.panel.silence ∧ t.panel.reset = s.panel.reset
      ∧ t.panel.test = s.panel.test ∧ t.panel.pressDrops = s.panel.pressDrops
      ∧ t.transfer.job = .idle ∧ t.transfer.pendingRegion = none ∧ (∀ m : Station, t.transfer.contexts[m] = none)
      ∧ t.transfer.regionDrops = s.transfer.regionDrops ∧ t.transfer.transferDrops = s.transfer.transferDrops
      ∧ t.responder = none ∧ (∀ m : Station, t.members.entries[m] = absentEntry) ∧ t.members.repairFlag = false
      ∧ t.members.repairTimer = none ∧ t.members.orderDisagreements = s.members.orderDisagreements
      ∧ t.timers.presencePending = false ∧ t.timers.t0 = .idle
      ∧ t.timers.t1 = (if s.cfg.t1ReloadMs = 0 then .idle else .counting s.cfg.t1ReloadMs)
      ∧ (t.timers.t2 = .idle ∨ t.timers.t2 = .counting s.cfg.t2ReloadMs)
      ∧ (t.timers.t3 = .idle ∨ t.timers.t3 = .counting s.cfg.t3ReloadMs) ∧ escAsserted t = false
      ∧ KeepsCounts s t ∧ t.lamp = s.lamp ∧ KeepsSetup s t

/-! ## Timers -/

/-- The listen timer's expiry brings the station into JOINING with the JOIN pending flag set and T0 counting from P, everything else as it stands.
The hold-off's expiry brings a WITHDRAWN station into LISTENING with reason AFTER_WITHDRAWAL, by the entry actions of R91, to receive after a full
idle gap; the report queue, the reported levels and the own points are kept (R35, R45, R91, R92, R100, R130, R155). A timer that is stopped or has
been loaded again has no expiry, assumption 4. -/
def Obligations.ListenAndHoldOffExpiries : Prop :=
  (∀ s : State, s.seq.state = .listening → s.seq.listenTimer = some 0 → s.timers.t0 = .idle →
     ∃ t, exec .listenTimerExpiry s = .next t
       ∧ t.seq = { s.seq with state := .joining, listenTimer := none, joinPending := true }
       ∧ t.timers.t0 = .counting s.cfg.presenceMs ∧ t.timers.presencePending = s.timers.presencePending
       ∧ t.points = s.points ∧ t.members = s.members ∧ t.transfer = s.transfer ∧ t.scanner = s.scanner ∧ t.line = s.line
       ∧ t.lamp = s.lamp ∧ t.responder = s.responder ∧ KeepsPanel s t ∧ KeepsSetup s t)
  ∧ (∀ s : State, s.seq.state = .withdrawn → s.line.holdOff = some 0 →
       ∃ t, exec .holdOffExpiry s = .next t
         ∧ t.seq = { state := .listening, joinReason := .afterWithdrawal, listenTimer := some (2 * s.cfg.presenceMs), syncTimer := none,
                     joinPending := false, orderCount := 0, countValid := false, pointHeard := false }
         ∧ t.line = { s.line with holdOff := none, awaitsGap := true } ∧ LosesOthers s t
         ∧ t.scanner = s.scanner ∧ t.members = s.members ∧ t.transfer = s.transfer ∧ t.responder = s.responder ∧ t.lamp = s.lamp
         ∧ KeepsPanel s t ∧ KeepsSetup s t)
  ∧ ∀ s : State,
      ((s.seq.state ≠ .listening ∨ s.seq.listenTimer ≠ some 0) → exec .listenTimerExpiry s = .next s)
      ∧ ((s.seq.state ≠ .withdrawn ∨ s.line.holdOff ≠ some 0) → exec .holdOffExpiry s = .next s)

/-- The sync timer's expiry brings the station into SYNCED even with peers STALE: the count is founded or kept by R97, the announcement job
starts, reconciliation begins and the repair test is made (R96, R97, R98). A sync timer that is stopped or has been loaded again has no expiry,
assumption 4. -/
def Obligations.SyncExpiryEntersSynced : Prop :=
  (∀ s : State, (s.seq.state ≠ .syncing ∨ s.seq.syncTimer ≠ some 0) → exec .syncTimerExpiry s = .next s)
  ∧ ∀ s : State, s.seq.state = .syncing → s.seq.syncTimer = some 0 →
    ∃ t, exec .syncTimerExpiry s = .next t
      ∧ t.seq
          = { s.seq with
              state := .synced
              syncTimer := none
              orderCount := t.seq.orderCount
              countValid := t.seq.countValid }
      ∧ (s.seq.countValid = true ∨ s.seq.pointHeard = true ∨ (∃ n : Station, isStale s n = true ∨ isPresent s n = true) →
          t.seq.orderCount = s.seq.orderCount ∧ t.seq.countValid = s.seq.countValid)
      ∧ (s.seq.countValid = false → s.seq.pointHeard = false → (∀ n : Station, isStale s n = false ∧ isPresent s n = false) →
          t.seq.orderCount = 0 ∧ t.seq.countValid = true)
      ∧ t.transfer = { s.transfer with job := .startPending wholeGrid, pendingRegion := none }
      ∧ t.scanner = reconcileRounds s.cfg 24 s.scanner
      ∧ t.members.entries = s.members.entries
      ∧ (s.line.attempt = none → RepairTested s t)
      ∧ t.points = s.points ∧ t.line = s.line ∧ t.lamp = s.lamp ∧ t.responder = s.responder ∧ KeepsPanel s t ∧ KeepsSetup s t

/-- While SYNCING, a frame or an absent timeout that moves an entry and leaves none STALE brings the station into SYNCED with its entry actions,
and any other leaves it SYNCING with its sync timer running on, unless it halts the station (R96, R98). -/
def Obligations.LastStaleEntryEndsSyncing : Prop :=
  ∀ (s t : State) (c : Instr), s.seq.state = .syncing → (movesMembership c = true ∨ isAbsentTimeout c = true) →
    exec c s = .next t → t.seq.state ≠ .halted →
    (((∃ n : Station, t.members.entries[n].state ≠ s.members.entries[n].state) ∧ anyStale t = false) →
      t.seq.state = .synced ∧ t.seq.syncTimer = none ∧ t.transfer.job = .startPending wholeGrid ∧ t.transfer.pendingRegion = none
        ∧ t.scanner = reconcileRounds s.cfg 24 s.scanner)
    ∧ (¬ ((∃ n : Station, t.members.entries[n].state ≠ s.members.entries[n].state) ∧ anyStale t = false) →
      t.seq.state = .syncing ∧ t.seq.syncTimer = s.seq.syncTimer ∧ t.scanner = s.scanner ∧ t.transfer.job = s.transfer.job)

/-- The absent timeout makes an entry ABSENT with its last digest kept and its age stopped, marks the station's points LOST, closes its context
without counting a drop, and raises MEMBERSHIP; the repair query flag is tested again, and is clear when the last STALE entry goes while no attempt
of the repair query is on the line, through which it stays set. Where a frame has reset the age first, the timeout does not happen (R78, R79, R80,
R84). The field raised is the model's own, assumption 19. -/
def Obligations.AbsentTimeoutLosesTheStation : Prop :=
  (∀ (s : State) (n : Station), s.members.entries[n].ageMs < 4 * s.cfg.presenceMs → exec (.absentTimeout n) s = .next s)
  ∧ ∀ (s : State) (n : Station), receives s.seq.state = true → s.cfg.self ≠ some n → s.members.entries[n].state ≠ .absent →
    4 * s.cfg.presenceMs ≤ s.members.entries[n].ageMs →
    ∃ t, exec (.absentTimeout n) s = .next t
      ∧ t.members.entries[n] = { state := .absent, ageMs := 0, lastDigest := s.members.entries[n].lastDigest }
      ∧ KeepsOtherEntries n s t ∧ LosesPointsOf n s t
      ∧ t.transfer.contexts[n] = none ∧ (∀ m : Station, m ≠ n → t.transfer.contexts[m] = s.transfer.contexts[m])
      ∧ t.transfer.transferDrops = s.transfer.transferDrops ∧ t.raised = classMembership
      ∧ ((∀ a : Attempt, s.line.attempt = some a → a.source ≠ .membershipTable) → RepairTested s t)
      ∧ (∀ a : Attempt, s.line.attempt = some a → a.source = .membershipTable → s.members.repairFlag = true →
          t.members.repairFlag = true ∧ t.members.repairTimer = s.members.repairTimer)
      ∧ t.line = s.line ∧ t.lamp = s.lamp ∧ t.responder = s.responder ∧ KeepsPanel s t ∧ KeepsSetup s t
      ∧ (s.seq.state ≠ .syncing → t.seq = s.seq ∧ t.scanner = s.scanner ∧ KeepsJob s t)

/-- The repair timer's expiry stops it and makes the repair test again, and T0's expiry sets the PRESENCE pending flag and counts from P again;
nothing else changes. A timer that is stopped or has been loaded again has no expiry, assumption 4, and where T0's falls at the successful end of
the station's own PRESENCE frame, both orders leave the flag clear and the count at P (R86, R155, R156). The field raised is the model's own,
assumption 19. -/
def Obligations.RepairAndPresenceExpiries : Prop :=
  (∀ (s : State) (src : Source) (d : Word) (count : Option Word) (state : LineState), transmits s.seq.state = true →
    s.line.attempt = some { source := src, content := .presence d count state } → s.timers.t0 = .counting 0 →
    s.cfg.presenceMs ≠ 0 →
    ∃ t, exec .ownFrameSuccessfulEnd s = .next t ∧ exec .t0PresenceExpiry t = .next t
      ∧ t.timers.presencePending = false ∧ t.timers.t0 = .counting s.cfg.presenceMs)
  ∧ (∀ (s : State) (src : Source) (d : Word) (count : Option Word) (state : LineState), transmits s.seq.state = true →
    s.line.attempt = some { source := src, content := .presence d count state } → s.timers.t0 = .counting 0 →
    ∃ t u, exec .t0PresenceExpiry s = .next t ∧ exec .ownFrameSuccessfulEnd t = .next u
      ∧ u.timers.presencePending = false ∧ u.timers.t0 = .counting s.cfg.presenceMs)
  ∧ ∀ s : State,
    (s.members.repairTimer ≠ some 0 → exec .repairTimerExpiry s = .next s)
    ∧ (s.timers.t0 ≠ .counting 0 → exec .t0PresenceExpiry s = .next s)
    ∧ (s.members.repairTimer = some 0 →
      ∃ t, exec .repairTimerExpiry s = .next t
        ∧ t = (s.setMembers t.members).setRaised 0
        ∧ t.members = { s.members with repairTimer := none, repairFlag := t.members.repairFlag }
        ∧ (s.members.repairFlag = false → t.members.repairFlag = (s.seq.state == .synced && anyStale s))
        ∧ (s.members.repairFlag = true → t.members.repairFlag = (anyStale s || repairOnLine s)))
    ∧ (s.timers.t0 = .counting 0 →
      exec .t0PresenceExpiry s
        = .next ((s.setTimers { s.timers with t0 := .counting s.cfg.presenceMs, presencePending := true }).setRaised 0))

/-- An activity timer that runs out rests in EXPIRED with its effect in force: T1 dims the matrix, T2 asserts ESC, T3 silences the horn; the other
timers and every record are as they were. The lamp test that runs out is TIMED_OUT. A timer that an activity has reloaded has no expiry (R154), and
neither has one that has been disarmed, nor a released lamp test, assumption 4 (R153, R157, R159, R160, R170). The field raised is the model's own,
assumption 19. -/
def Obligations.ExpiriesPutEffectsInForce : Prop :=
  ∀ s : State,
    (s.timers.t1 ≠ .counting 0 → exec (.activityTimerExpiry .t1) s = .next s)
    ∧ (s.timers.t2 ≠ .counting 0 → exec (.activityTimerExpiry .t2) s = .next s)
    ∧ (s.timers.t3 ≠ .counting 0 → exec (.activityTimerExpiry .t3) s = .next s)
    ∧ (s.lamp.test ≠ .active 0 → exec .lampTestTimeout s = .next s)
    ∧ (s.timers.t1 = .counting 0 → s.panel.horn = hornPattern s →
      ∃ t, exec (.activityTimerExpiry .t1) s = .next t ∧ t.timers = { s.timers with t1 := .expired } ∧ brightness t = .dim
        ∧ t.panel.horn = s.panel.horn ∧ t.points = s.points ∧ t.seq = s.seq ∧ t.line = s.line ∧ t.members = s.members
        ∧ t.transfer = s.transfer ∧ t.scanner = s.scanner ∧ t.lamp = s.lamp ∧ t.responder = s.responder
        ∧ KeepsPanel s t ∧ KeepsSetup s t)
    ∧ (s.timers.t2 = .counting 0 → s.panel.horn = hornPattern s →
      ∃ t, exec (.activityTimerExpiry .t2) s = .next t ∧ t.timers = { s.timers with t2 := .expired } ∧ escAsserted t = true
        ∧ t.panel.horn = s.panel.horn ∧ t.points = s.points ∧ t.seq = s.seq ∧ t.line = s.line ∧ t.members = s.members
        ∧ t.transfer = s.transfer ∧ t.scanner = s.scanner ∧ t.lamp = s.lamp ∧ t.responder = s.responder
        ∧ KeepsPanel s t ∧ KeepsSetup s t)
    ∧ (s.timers.t3 = .counting 0 →
      ∃ t, exec (.activityTimerExpiry .t3) s = .next t ∧ t.timers = { s.timers with t3 := .expired } ∧ t.panel.horn = .silent
        ∧ hornDemand t.cfg t.points = hornDemand s.cfg s.points ∧ t.points = s.points ∧ t.seq = s.seq ∧ t.line = s.line
        ∧ t.members = s.members ∧ t.transfer = s.transfer ∧ t.scanner = s.scanner ∧ t.lamp = s.lamp ∧ t.responder = s.responder
        ∧ KeepsPanel s t ∧ KeepsSetup s t)
    ∧ (s.lamp.test = .active 0 →
      exec .lampTestTimeout s = .next ((s.setLamp { s.lamp with test := .timedOut }).setRaised 0))

/-- A received frame of classes 0 to 4, an absent timeout, the end of an own frame, a failed attempt that withdraws or halts the station, a sample
or a settled level of a field input or a button, and the expiries of the listen, sync and hold-off timers are each one moment for every timer: each
takes it once, by R153's table, from the arming condition that the moment leaves and from whether its mask names a class raised in the moment. T0 is
armed in JOINING, SYNCING and SYNCED; T1 to T3 with a reload other than 0 in every state but OFF and HALTED, T2 while a used point of the control
set is unacknowledged, T3 while one makes horn demand. A change of a scanned line's stable level raises INPUT and nothing else, and a button that
comes to rest pressed raises BUTTON and nothing else; where T1's mask names the class the matrix is no longer DIM, where T2's does ESC is released,
and where T3's does the mute is withdrawn and the horn sounds while demand holds (R119, R133, R149 to R151, R153 to R155, R157 to R160, R171). The
field raised is the model's own, assumption 19. -/
def Obligations.TimersTakeEachMomentOnce : Prop :=
  (∀ (s t : State) (c : Instr), exec c s = .next t →
    ((∃ gap : Nat, frameGap c = some gap ∧ hears gap s = true ∧ movesMembership c = true)
      ∨ (∃ a, c = .ownFrameSuccessfulEnd ∧ transmits s.seq.state = true ∧ s.line.attempt = some a)
      ∨ (∃ a, s.line.attempt = some a ∧ transmits s.seq.state = true
          ∧ ((c = .attemptVoided ∧ 15 ≤ s.line.failures)
              ∨ (c = .echoMismatch ∧ (15 ≤ s.line.failures ∨ 2 ≤ s.line.mismatches))))
      ∨ (∃ n : Station, c = .absentTimeout n ∧ receives s.seq.state = true ∧ s.cfg.self ≠ some n
          ∧ s.members.entries[n].state ≠ .absent ∧ 4 * s.cfg.presenceMs ≤ s.members.entries[n].ageMs)
      ∨ TakesSample c s
      ∨ (c = .listenTimerExpiry ∧ s.seq.state = .listening ∧ s.seq.listenTimer = some 0)
      ∨ (c = .syncTimerExpiry ∧ s.seq.state = .syncing ∧ s.seq.syncTimer = some 0)
      ∨ (c = .holdOffExpiry ∧ s.seq.state = .withdrawn ∧ s.line.holdOff = some 0)) →
    TakesMoment (t.seq.state = .joining ∨ t.seq.state = .syncing ∨ t.seq.state = .synced) (t.raised &&& 0x80 ≠ 0) s.cfg.presenceMs
      s.timers.t0 t.timers.t0
    ∧ TakesMoment (s.cfg.t1ReloadMs ≠ 0 ∧ t.seq.state ≠ .off ∧ t.seq.state ≠ .halted) (t.raised &&& s.cfg.t1Mask ≠ 0) s.cfg.t1ReloadMs
        s.timers.t1 t.timers.t1
    ∧ TakesMoment
        (s.cfg.t2ReloadMs ≠ 0 ∧ t.seq.state ≠ .off ∧ t.seq.state ≠ .halted
          ∧ ∃ p : PointIndex, isUsed s.cfg p = true ∧ s.cfg.controlSet.getLsbD s.cfg.points[p].group.val = true
              ∧ (t.points[p].state = .alert ∨ t.points[p].state = .returned))
        (t.raised &&& s.cfg.t2Mask ≠ 0) s.cfg.t2ReloadMs s.timers.t2 t.timers.t2
    ∧ TakesMoment
        (s.cfg.t3ReloadMs ≠ 0 ∧ t.seq.state ≠ .off ∧ t.seq.state ≠ .halted
          ∧ ∃ p : PointIndex, isUsed s.cfg p = true ∧ s.cfg.controlSet.getLsbD s.cfg.points[p].group.val = true
              ∧ (((t.points[p].state = .alert ∨ t.points[p].state = .returned) ∧ t.points[p].silenced = false)
                  ∨ t.points[p].state = .ringback))
        (t.raised &&& s.cfg.t3Mask ≠ 0) s.cfg.t3ReloadMs s.timers.t3 t.timers.t3)
  ∧ (∀ (s : State) (c : Instr), TakesSample c s →
      ∃ t, exec c s = .next t ∧ t.points = s.points
        ∧ (t.raised = 0 ∨ t.raised = classInput ∨ t.raised = classButton)
        ∧ (t.raised = classInput ↔ ∃ l : InputLine, t.scanner.lines[l].debouncer.stable ≠ s.scanner.lines[l].debouncer.stable)
        ∧ (t.raised = classButton ↔
            ∃ b : Button, (debouncerOf s.panel b).stable = .released ∧ (debouncerOf t.panel b).stable = .pressed)
        ∧ (t.raised &&& s.cfg.t1Mask ≠ 0 → brightness t = .full)
        ∧ (t.raised &&& s.cfg.t2Mask ≠ 0 → escAsserted t = false)
        ∧ (t.raised &&& s.cfg.t3Mask ≠ 0 → t.timers.t3 ≠ .expired ∧ (t.panel.horn ≠ .silent ↔ hornDemand s.cfg s.points = true)))

/-! ## Field inputs and buttons -/

/-- A sample of a scanned line while the scanner runs follows the table of R118: SETTLING from a changed level, back to STEADY, or at once to the
new stable level with a debounce time of 0; a sample back at the stable level at the instant of the timer's expiry, with 0 left, finds the level
settled and starts a new settling toward the old one. A pin that is low reads its contact closed, one that is high or undriven open, and the
polarity turns the contact into the level (R116, R118, R119, R201, R202). The field raised is the model's own, assumption 19. -/
def Obligations.FieldSampleFollowsTheSettlingTable : Prop :=
  ∀ (s : State) (l : InputLine) (p : PointIndex) (pin : PinLevel) (level : Level), panelRuns s.seq.state = true →
    pointOfLine s.cfg l = some p →
    (level = .abnormal ↔ (pin = .low ↔ s.cfg.points[p].abnormalWhenClosed = true)) →
    ∃ t, exec (.fieldInputChange l pin) s = .next t
      ∧ t.pins = { s.pins with field := s.pins.field.set l pin }
      ∧ (∀ m : InputLine, m ≠ l → t.scanner.lines[m].debouncer = s.scanner.lines[m].debouncer)
      ∧ t.scanner.lines[l].debouncer.raw = level
      ∧ (s.scanner.lines[l].debouncer.settling = none → level ≠ s.scanner.lines[l].debouncer.stable → 0 < s.cfg.points[p].debounceMs →
          t.scanner.lines[l].debouncer.stable = s.scanner.lines[l].debouncer.stable
            ∧ t.scanner.lines[l].debouncer.settling = some s.cfg.points[p].debounceMs ∧ t.raised = 0)
      ∧ (s.scanner.lines[l].debouncer.settling = none → level ≠ s.scanner.lines[l].debouncer.stable → s.cfg.points[p].debounceMs = 0 →
          t.scanner.lines[l].debouncer.stable = level ∧ t.scanner.lines[l].debouncer.settling = none ∧ t.raised = classInput)
      ∧ (level = s.scanner.lines[l].debouncer.stable → s.scanner.lines[l].debouncer.settling ≠ some 0 →
          t.scanner.lines[l].debouncer.stable = s.scanner.lines[l].debouncer.stable
            ∧ t.scanner.lines[l].debouncer.settling = none ∧ t.raised = 0)
      ∧ (level = s.scanner.lines[l].debouncer.stable → s.scanner.lines[l].debouncer.settling = some 0 →
          s.scanner.lines[l].debouncer.raw ≠ s.scanner.lines[l].debouncer.stable → 0 < s.cfg.points[p].debounceMs →
          t.scanner.lines[l].debouncer.stable = s.scanner.lines[l].debouncer.raw
            ∧ t.scanner.lines[l].debouncer.settling = some s.cfg.points[p].debounceMs ∧ t.raised = classInput)
      ∧ (∀ ms : Nat, s.scanner.lines[l].debouncer.settling = some ms → level ≠ s.scanner.lines[l].debouncer.stable →
          t.scanner.lines[l].debouncer.stable = s.scanner.lines[l].debouncer.stable
            ∧ t.scanner.lines[l].debouncer.settling = some ms ∧ t.raised = 0)
      ∧ (t.raised = 0 → t.scanner.queue = s.scanner.queue ∧ ∀ m : InputLine, t.scanner.lines[m].reported = s.scanner.lines[m].reported)
      ∧ t.points = s.points ∧ t.seq = s.seq ∧ t.line = s.line ∧ t.members = s.members ∧ t.transfer = s.transfer ∧ t.lamp = s.lamp
      ∧ t.responder = s.responder ∧ KeepsPanel s t ∧ t.cfg = s.cfg ∧ t.loader = s.loader ∧ t.hold = s.hold ∧ t.pending = s.pending

/-- A settling timer's expiry gives the line its raw level as the stable level, raises INPUT, and reconciles; an abandoned settling leaves the
stable level, and its pin reading that level. A settling that has ended, or has been started again, has no expiry, assumption 4. While the scanner
does not run, or on a line that is not scanned, a sample changes the pin alone (R115, R117, R118, R119, R121, R201). The field raised is the model's
own, assumption 19; how the pin stands at an abandoned settling is assumption 14. -/
def Obligations.InputSettlingEnds : Prop :=
  ∀ (s : State) (l : InputLine) (pin : PinLevel),
    (s.scanner.lines[l].debouncer.settling ≠ some 0 → exec (.inputSettlingExpiry l) s = .next s)
    ∧ (panelRuns s.seq.state = true → (pointOfLine s.cfg l).isSome = true → s.scanner.lines[l].debouncer.settling = some 0 →
      ∃ t, exec (.inputSettlingExpiry l) s = .next t
        ∧ t.scanner.lines[l].debouncer
            = { raw := s.scanner.lines[l].debouncer.raw, stable := s.scanner.lines[l].debouncer.raw, settling := none }
        ∧ (∀ m : InputLine, m ≠ l → t.scanner.lines[m].debouncer = s.scanner.lines[m].debouncer)
        ∧ (s.scanner.lines[l].debouncer.raw ≠ s.scanner.lines[l].debouncer.stable → t.raised = classInput)
        ∧ (s.seq.state ≠ .synced →
            t.scanner.queue = s.scanner.queue ∧ ∀ m : InputLine, t.scanner.lines[m].reported = s.scanner.lines[m].reported)
        ∧ (s.seq.state = .synced → s.scanner.queue.length < 24 → s.scanner.lines[l].debouncer.raw ≠ s.scanner.lines[l].debouncer.stable →
            s.scanner.lines[l].reported = s.scanner.lines[l].debouncer.stable →
            (∀ m : InputLine, m ≠ l → isUnreported s.cfg s.scanner m = false) →
            t.scanner.queue = s.scanner.queue ++ [{ line := l, event := reportOf s.scanner.lines[l].debouncer.raw }]
              ∧ t.scanner.lines[l].reported = s.scanner.lines[l].debouncer.raw)
        ∧ t.points = s.points ∧ t.seq = s.seq ∧ t.line = s.line ∧ t.members = s.members ∧ t.transfer = s.transfer ∧ t.lamp = s.lamp
        ∧ t.responder = s.responder ∧ KeepsPanel s t ∧ KeepsSetup s t)
    ∧ (∀ ms : Nat, panelRuns s.seq.state = true → (pointOfLine s.cfg l).isSome = true →
      s.scanner.lines[l].debouncer.settling = some (ms + 1) →
      ∃ t, exec (.inputSettlingAbandoned l) s = .next t
        ∧ t.scanner
            = { s.scanner with
                lines := s.scanner.lines.set l
                  { s.scanner.lines[l] with
                    debouncer :=
                      { raw := s.scanner.lines[l].debouncer.stable, stable := s.scanner.lines[l].debouncer.stable, settling := none } } }
        ∧ t.raised = 0 ∧ t.points = s.points ∧ t.seq = s.seq ∧ t.line = s.line ∧ t.members = s.members ∧ t.transfer = s.transfer
        ∧ t.lamp = s.lamp ∧ t.responder = s.responder ∧ KeepsPanel s t ∧ t.cfg = s.cfg ∧ t.loader = s.loader ∧ t.hold = s.hold
        ∧ t.pending = s.pending ∧ t.pins = { s.pins with field := s.pins.field.set l t.pins.field[l] }
        ∧ ∀ p : PointIndex, pointOfLine s.cfg l = some p →
            (t.pins.field[l] = .low ↔
              (s.scanner.lines[l].debouncer.stable = .abnormal ↔ s.cfg.points[p].abnormalWhenClosed = true)))
    ∧ ((panelRuns s.seq.state = false ∨ pointOfLine s.cfg l = none) →
        exec (.fieldInputChange l pin) s = .next (s.setPins { s.pins with field := s.pins.field.set l pin }))

/-- A sample of a button follows the table of R132 with a settling time of 20 ms, and an abandoned settling leaves the stable level; neither raises
a class, enters a queue, or changes a record, the line state or the lamp test. At the instant of the settling timer's expiry, with 0 left, a sample
back at the stable level finds the button settled, and starts a new settling. While the debouncers do not run, the pin alone changes. A pin that is
low reads pressed, one that is high or undriven released (R131, R132, R201, R202). The field raised is the model's own, assumption 19; how the pin
stands at an abandoned settling is assumption 14. -/
def Obligations.ButtonSampleFollowsTheSettlingTable : Prop :=
  ∀ (s : State) (b : Button) (pin : PinLevel) (level : ButtonLevel), (level = .pressed ↔ pin = .low) →
    (panelRuns s.seq.state = true →
      (level = (debouncerOf s.panel b).stable → (debouncerOf s.panel b).settling ≠ some 0) →
      ∃ t, exec (.buttonInputChange b pin) s = .next t ∧ buttonPin t.pins b = pin
        ∧ (∀ other : Button, other ≠ b →
            debouncerOf t.panel other = debouncerOf s.panel other ∧ buttonPin t.pins other = buttonPin s.pins other)
        ∧ (debouncerOf t.panel b).raw = level ∧ (debouncerOf t.panel b).stable = (debouncerOf s.panel b).stable
        ∧ (level = (debouncerOf s.panel b).stable → (debouncerOf t.panel b).settling = none)
        ∧ (level ≠ (debouncerOf s.panel b).stable → (debouncerOf s.panel b).settling = none →
            (debouncerOf t.panel b).settling = some 20)
        ∧ (∀ ms : Nat, level ≠ (debouncerOf s.panel b).stable → (debouncerOf s.panel b).settling = some ms →
            (debouncerOf t.panel b).settling = some ms)
        ∧ t.panel.queue = s.panel.queue ∧ t.panel.pressDrops = s.panel.pressDrops ∧ t.raised = 0 ∧ t.pins.field = s.pins.field
        ∧ t.points = s.points ∧ t.seq = s.seq ∧ t.line = s.line ∧ t.members = s.members ∧ t.transfer = s.transfer
        ∧ t.scanner = s.scanner ∧ t.lamp = s.lamp ∧ t.responder = s.responder ∧ t.cfg = s.cfg ∧ t.loader = s.loader)
    ∧ (panelRuns s.seq.state = true → level = (debouncerOf s.panel b).stable → (debouncerOf s.panel b).settling = some 0 →
      (debouncerOf s.panel b).raw ≠ (debouncerOf s.panel b).stable →
      ∃ t, exec (.buttonInputChange b pin) s = .next t ∧ buttonPin t.pins b = pin
        ∧ (∀ other : Button, other ≠ b → debouncerOf t.panel other = debouncerOf s.panel other)
        ∧ debouncerOf t.panel b = { raw := level, stable := (debouncerOf s.panel b).raw, settling := some 20 }
        ∧ t.raised = (if (debouncerOf s.panel b).raw = .pressed then classButton else 0)
        ∧ t.points = s.points ∧ t.seq = s.seq ∧ t.line = s.line ∧ t.members = s.members ∧ t.transfer = s.transfer
        ∧ t.scanner = s.scanner ∧ t.responder = s.responder ∧ t.cfg = s.cfg ∧ t.loader = s.loader)
    ∧ (∀ ms : Nat, panelRuns s.seq.state = true → (debouncerOf s.panel b).settling = some (ms + 1) →
      ∃ t, exec (.buttonSettlingAbandoned b) s = .next t
        ∧ debouncerOf t.panel b
            = { raw := (debouncerOf s.panel b).stable, stable := (debouncerOf s.panel b).stable, settling := none }
        ∧ (∀ other : Button, other ≠ b → debouncerOf t.panel other = debouncerOf s.panel other)
        ∧ t.panel.queue = s.panel.queue ∧ t.panel.pressDrops = s.panel.pressDrops ∧ t.raised = 0
        ∧ t.points = s.points ∧ t.seq = s.seq ∧ t.line = s.line ∧ t.members = s.members ∧ t.transfer = s.transfer
        ∧ t.scanner = s.scanner ∧ t.lamp = s.lamp ∧ t.responder = s.responder ∧ t.cfg = s.cfg ∧ t.loader = s.loader
        ∧ (buttonPin t.pins b = .low ↔ (debouncerOf s.panel b).stable = .pressed))
    ∧ (panelRuns s.seq.state = false → exec (.buttonInputChange b pin) s = .next (setButtonPin b pin s))

/-- A button that settles pressed is a press: BUTTON is raised; ACK, SILENCE and RESET append an entry with the control set and the horizon of
R137 while the station is SYNCED with room for it, else they count a press drop; TEST begins the lamp test of 30 s. A button that settles released
raises nothing, and TEST released ends the test. A settling that has ended, or has been started again, has no expiry, assumption 4 (R133, R136,
R142, R170). The field raised is the model's own, assumption 19. -/
def Obligations.PressesEnterTheQueueOrDrop : Prop :=
  (∀ (s : State) (b : Button), (debouncerOf s.panel b).settling ≠ some 0 → exec (.buttonSettlingExpiry b) s = .next s)
  ∧ ∀ (s : State) (b : Button), panelRuns s.seq.state = true → (debouncerOf s.panel b).settling = some 0 →
    ((debouncerOf s.panel b).raw = .pressed → (debouncerOf s.panel b).stable = .released →
      ∃ t, exec (.buttonSettlingExpiry b) s = .next t ∧ t.raised = classButton
        ∧ debouncerOf t.panel b = { raw := .pressed, stable := .pressed, settling := none }
        ∧ (∀ op : Operation, (b = .ack ∧ op = .ack) ∨ (b = .silence ∧ op = .silence) ∨ (b = .reset ∧ op = .reset) →
            t.lamp = s.lamp
            ∧ (s.seq.state = .synced → s.panel.queue.length < 4 →
                t.panel.queue
                    = s.panel.queue
                        ++ [{ operation := op, groups := s.cfg.controlSet, horizon := if op = .ack then s.seq.orderCount else 0 }]
                  ∧ t.panel.pressDrops = s.panel.pressDrops)
            ∧ ((s.seq.state ≠ .synced ∨ 4 ≤ s.panel.queue.length) →
                t.panel.queue = s.panel.queue
                  ∧ t.panel.pressDrops = (if s.panel.pressDrops = 255 then 255 else s.panel.pressDrops + 1)))
        ∧ (b = .test →
            t.panel.queue = s.panel.queue ∧ t.panel.pressDrops = s.panel.pressDrops
              ∧ (s.lamp.test = .idle → t.lamp = { s.lamp with test := .active 30000 })
              ∧ (s.lamp.test ≠ .idle → t.lamp = s.lamp))
        ∧ t.points = s.points ∧ t.seq = s.seq ∧ t.line = s.line ∧ t.members = s.members ∧ t.transfer = s.transfer
        ∧ t.scanner = s.scanner ∧ t.responder = s.responder ∧ KeepsSetup s t)
    ∧ ((debouncerOf s.panel b).raw = .released → (debouncerOf s.panel b).stable = .pressed →
      ∃ t, exec (.buttonSettlingExpiry b) s = .next t ∧ t.raised = 0
        ∧ debouncerOf t.panel b = { raw := .released, stable := .released, settling := none }
        ∧ t.panel.queue = s.panel.queue ∧ t.panel.pressDrops = s.panel.pressDrops
        ∧ t.lamp = (if b = .test then { s.lamp with test := .idle } else s.lamp)
        ∧ t.points = s.points ∧ t.seq = s.seq ∧ t.line = s.line ∧ t.members = s.members ∧ t.transfer = s.transfer
        ∧ t.scanner = s.scanner ∧ t.responder = s.responder ∧ KeepsSetup s t)

/-! ## Outputs -/

/-- Horn demand, ALM, FLT and the horn's pattern follow the control set's points and the line state (R143 to R147). Each output pin is high while
its output is asserted, FLT low. While the image is read MCS is low, MCK is high in the second half of each of the 9800 clock periods, and MDO gives
03h, 00h and 00h in the first 24. LTX is high while the station leaves the line recessive; low for the two bit times of a void and for the eight of
a fault mark; and with an attempt on the line it carries the frame's bits, the start bit first and ten recessive ones behind the check, until
arbitration is lost, which leaves it high, or an echo mismatch, whose mark is that of FailedAttemptsAreCounted. With the supply below 2.7 V no pin
is driven (R31, R34, R37, R39, R187, R191, R201). The inserted bit after a run that ends with the check is assumption 10, and that MCK is high in
the second half of each period the model's choice, assumption 31. -/
def Obligations.OutputsFollowTheControlSet : Prop :=
  ∀ s : State,
    (s.hold.powered = true →
      (hornPin s = .high ↔ s.panel.horn = .continuous ∨ (s.panel.horn = .intermittent ∧ s.panel.hornPhaseMs < 500))
      ∧ (almPin s = .high ↔ almAsserted s = true) ∧ (escPin s = .high ↔ s.timers.t2 = .expired) ∧ (fltPin s = .low ↔ fltAsserted s = true)
      ∧ (chipSelectPin s = .low ↔ s.loader.state = .reading)
      ∧ (∀ k : Nat, memoryClockPin s k = .high ↔ s.loader.state = .reading ∧ k < 19600 ∧ k % 2 = 1)
      ∧ (∀ k : Nat, (s.loader.state ≠ .reading ∨ 9800 ≤ k) → memoryDataPin s k = some .low)
      ∧ (∀ k : Nat, s.loader.state = .reading → k < 24 → memoryDataPin s k = some (if k = 6 ∨ k = 7 then .high else .low))
      ∧ ∀ (lrx : List Bool) (k : Nat),
          (s.line.drive = .recessive → ltxPin s lrx k = .high)
          ∧ (s.line.drive = .void → ltxPin s lrx k = if k < 2 then .low else .high)
          ∧ (s.line.drive = .faultMark → ltxPin s lrx k = if k < 8 then .low else .high)
          ∧ (s.line.drive = .frame → ∀ a : Attempt, s.line.attempt = some a →
              attemptBits s a
                  = insertBits (spanBits (arbitrationField (classOf a.content) (sentField s)) (buildPayload a.content))
                      ++ List.replicate 10 true
                ∧ ((∀ bit : Nat, endOfAttempt s a lrx = .lostArbitration bit ∨ endOfAttempt s a lrx = .echoMismatch bit → k ≤ bit) →
                    ltxPin s lrx k = if (attemptBits s a).getD k true then .high else .low)
                ∧ (∀ bit : Nat, endOfAttempt s a lrx = .lostArbitration bit → bit < k → ltxPin s lrx k = .high)))
    ∧ (s.hold.powered = true ↔ ∀ (lrx : List Bool) (k : Nat) (r c : Fin 8),
        hornPin s ≠ .undriven ∧ almPin s ≠ .undriven ∧ escPin s ≠ .undriven ∧ fltPin s ≠ .undriven ∧ chipSelectPin s ≠ .undriven
          ∧ memoryClockPin s k ≠ .undriven ∧ ltxPin s lrx k ≠ .undriven ∧ rowPin s r ≠ .undriven ∧ columnPin s k c ≠ .undriven)
    ∧ (s.hold.powered = false → ∀ (lrx : List Bool) (k : Nat) (r c : Fin 8),
        hornPin s = .undriven ∧ almPin s = .undriven ∧ escPin s = .undriven ∧ fltPin s = .undriven ∧ chipSelectPin s = .undriven
          ∧ memoryClockPin s k = .undriven ∧ ltxPin s lrx k = .undriven ∧ rowPin s r = .undriven ∧ columnPin s k c = .undriven)
    ∧ (hornDemand s.cfg s.points = true ↔
      ∃ p : PointIndex, isUsed s.cfg p = true ∧ s.cfg.controlSet.getLsbD s.cfg.points[p].group.val = true
        ∧ (((s.points[p].state = .alert ∨ s.points[p].state = .returned) ∧ s.points[p].silenced = false)
            ∨ s.points[p].state = .ringback))
    ∧ (almAsserted s = true ↔
      (s.seq.state ≠ .off ∧ s.seq.state ≠ .halted)
      ∧ ∃ p : PointIndex, isUsed s.cfg p = true ∧ s.cfg.controlSet.getLsbD s.cfg.points[p].group.val = true
        ∧ (s.points[p].state = .alert ∨ s.points[p].state = .returned ∨ s.points[p].state = .held ∨ s.points[p].state = .ringback))
    ∧ (fltAsserted s = true ↔
      s.seq.state = .off ∨ s.seq.state = .halted ∨ s.seq.state = .withdrawn
      ∨ ∃ p : PointIndex, isUsed s.cfg p = true ∧ s.cfg.controlSet.getLsbD s.cfg.points[p].group.val = true
        ∧ s.points[p].state = .lost)
    ∧ (hornPattern s = .continuous ↔
      s.seq.state ≠ .off ∧ s.seq.state ≠ .halted ∧ s.timers.t3 ≠ .expired
      ∧ ∃ p : PointIndex, isUsed s.cfg p = true ∧ s.cfg.controlSet.getLsbD s.cfg.points[p].group.val = true
        ∧ (s.points[p].state = .alert ∨ s.points[p].state = .returned) ∧ s.points[p].silenced = false)
    ∧ (hornPattern s = .intermittent ↔
      s.seq.state ≠ .off ∧ s.seq.state ≠ .halted ∧ s.timers.t3 ≠ .expired
      ∧ (∀ p : PointIndex, isUsed s.cfg p = true → s.cfg.controlSet.getLsbD s.cfg.points[p].group.val = true →
          ¬ ((s.points[p].state = .alert ∨ s.points[p].state = .returned) ∧ s.points[p].silenced = false))
      ∧ ∃ p : PointIndex, isUsed s.cfg p = true ∧ s.cfg.controlSet.getLsbD s.cfg.points[p].group.val = true
        ∧ s.points[p].state = .ringback)

/-- What a position of the matrix shows: nothing in OFF, and LOST at FULL at every position in HALTED, whether or not a window is held; the point of
the display window in the pattern that the table of R166 gives its record, dark beyond the window; STEADY at FULL within the window's rows and
columns in a lamp test. The patterns are on for the parts of the 2 s cycle that R167 gives. A lit position is driven for 1000 µs of its slot, or
for 250 µs while T1's effect is in force. A millisecond later the next row's slot begins and drives its columns so; where the lamp test ends
within the slot, they follow the records' patterns and the brightness as the slot began (R164, R166, R167, R169 to R172, R175, R201). That a step
on an empty queue is that millisecond is the model's choice, assumption 6. -/
def Obligations.MatrixShowsTheWindow : Prop :=
  (∀ s : State, s.pending = [] →
    ∃ t, step s = .next t ∧ t.lamp.scanRow = s.lamp.scanRow + 1
      ∧ (∀ r : Fin 8,
          rowPin t r
            = if s.hold.powered then (if s.seq.state ≠ .off ∧ r = s.lamp.scanRow + 1 then .high else .low) else .undriven)
      ∧ (∀ (c : Fin 8) (micros : Nat),
          columnPin t micros c
            = if s.hold.powered then (if micros < litMicros t t.lamp.scanRow c then .high else .low) else .undriven)
      ∧ (∀ (c : Fin 8) (u : State) (micros : Nat),
          u.lamp.slotLit = t.lamp.slotLit → u.lamp.slotDrive = t.lamp.slotDrive → panelRuns u.seq.state = true →
          (∀ ms : Nat, u.lamp.test ≠ .active ms) →
          columnLit u micros c
            = ((micros < if t.timers.t1 = .expired then 250 else 1000)
                && match shownPoint t.cfg t.lamp.scanRow c with
                  | some p => isUsed t.cfg p && patternOn (patternOf t.points[p]) t.lamp.flashPhaseMs
                  | none => false)))
  ∧ (∀ (s : State) (r c : Fin 8) (micros : Nat),
      (s.seq.state = .off → litMicros s r c = 0 ∧ columnLit s micros c = false)
      ∧ (s.seq.state = .halted →
          litMicros s r c = (if s.lamp.flashPhaseMs % 2000 < 125 then 1000 else 0)
            ∧ columnLit s micros c = (s.lamp.flashPhaseMs % 2000 < 125 && micros < 1000))
      ∧ (s.cfg.display = none → s.seq.state ≠ .halted → litMicros s r c = 0))
  ∧ (∀ (s : State) (w : DisplayWindow) (r c : Fin 8), s.cfg.display = some w → panelRuns s.seq.state = true →
      (∀ ms : Nat, s.lamp.test = .active ms →
        litMicros s r c = (if r.val < w.rows ∧ c.val < w.columns then 1000 else 0)
          ∧ ∀ micros : Nat, c.val < w.columns → s.lamp.scanRow.val < w.rows → columnLit s micros c = (micros < 1000))
      ∧ ((∀ ms : Nat, s.lamp.test ≠ .active ms) →
        ((w.rows ≤ r.val ∨ w.columns ≤ c.val ∨ 15 < w.originRow + r.val ∨ 15 < w.originColumn + c.val) → litMicros s r c = 0)
        ∧ ∀ p : PointIndex, p.val = (w.originRow + r.val) * 16 + (w.originColumn + c.val) → r.val < w.rows → c.val < w.columns →
            w.originRow + r.val ≤ 15 → w.originColumn + c.val ≤ 15 →
            shownPoint s.cfg r c = some p
            ∧ (isUsed s.cfg p = false → positionPattern s r c = .dark)
            ∧ (isUsed s.cfg p = true →
                (s.points[p].state = .quiet → positionPattern s r c = .dark)
                ∧ (s.points[p].state = .alert → positionPattern s r c = if s.points[p].firstOut then .double else .fast)
                ∧ (s.points[p].state = .returned → positionPattern s r c = .fast)
                ∧ (s.points[p].state = .held → positionPattern s r c = .steady)
                ∧ (s.points[p].state = .ringback → positionPattern s r c = .slow)
                ∧ (s.points[p].state = .lost → positionPattern s r c = .lost)
                ∧ positionPattern s r c = patternOf s.points[p])
            ∧ litMicros s r c
                = if patternOn (positionPattern s r c) s.lamp.flashPhaseMs then
                    (if s.timers.t1 = .expired then 250 else 1000)
                  else 0))
  ∧ ∀ phase : Nat, phase < 2000 →
      patternOn .dark phase = false ∧ patternOn .steady phase = true
      ∧ (patternOn .fast phase = true ↔
          phase < 250 ∨ (500 ≤ phase ∧ phase < 750) ∨ (1000 ≤ phase ∧ phase < 1250) ∨ (1500 ≤ phase ∧ phase < 1750))
      ∧ (patternOn .double phase = true ↔
          phase < 125 ∨ (250 ≤ phase ∧ phase < 375) ∨ (1000 ≤ phase ∧ phase < 1125) ∨ (1250 ≤ phase ∧ phase < 1375))
      ∧ (patternOn .slow phase = true ↔ phase < 1000)
      ∧ (patternOn .lost phase = true ↔ phase < 125)

/-! ## Invariants that every step keeps -/

/-- A station's own points never become LOST, and outside OFF its unused points are QUIET with every field 0 and clear (R4, R5, R21). Every point
whose owner the station holds ABSENT or MISMATCH is LOST at it, through every step (R21, R79). -/
def Obligations.LostMarkingFollowsMembership : Prop :=
  ((∀ s t : State, OwnKnownInv s → step s = .next t → OwnKnownInv t)
     ∧ ∀ s t : State, UnusedQuietInv s → step s = .next t → UnusedQuietInv t)
  ∧ (∀ s t : State, LossInv s → step s = .next t → LossInv t)

/-- The report queue never holds more than 24 entries, and a SYNCED station with room in it has no unreported line; the operator queue never
holds more than 4, and is empty but in SYNCED and HALTED (R122, R127, R139, R141). -/
def Obligations.QueuesStayWithinBounds : Prop :=
  (∀ s t : State, ReportInv s → step s = .next t → ReportInv t) ∧ ∀ s t : State, OperatorInv s → step s = .next t → OperatorInv t

/-- The entries queued for every scanned line move its point's implied level, each in turn, to the line's reported level, through every step
(R123). -/
def Obligations.QueuedReportsLeadToTheReportedLevel : Prop :=
  ∀ s t : State, ReportChainInv s → step s = .next t → ReportChainInv t

/-- The failure counts stay within 16 and 3 and stand at them in HALTED alone; an attempt stands on the line only where R49 allows one, and a deaf
station, and one that has seen no idle gap yet, leaves the line recessive. The sequencer's timers and its JOIN pending flag fit its line state, and
an order count that is not valid is held as 0 (R31, R35, R42, R43, R46, R49, R89, R91). The load state, the reset's holders, the supply, the
digest and the line state fit each other as R187 to R189 lay down. -/
def Obligations.LineItemsFitTheLineState : Prop :=
  ((∀ s t : State, AttemptInv s → step s = .next t → AttemptInv t)
     ∧ ∀ s t : State, FailureInv s → step s = .next t → FailureInv t)
  ∧ (∀ s t : State, SequencerInv s → step s = .next t → SequencerInv t)
  ∧ (∀ s t : State, ResetInv s → step s = .next t → ResetInv t)

/-- Each timer is IDLE exactly while its arming condition does not hold, and the horn sounds what the records, the line state and the mute ask for,
after every step. In INTERMITTENT it sounds for the first 0.5 s of each 4 s: each passage into it starts with the on-phase, whatever command brings
it, and a command that does not end it leaves the cycle running on (R144, R145, R152, R153, R155, R157, R158, R160). That a step on an empty queue
moves the cycle by one millisecond is the model's choice, assumption 6, and so is the phase held for it, assumption 20. -/
def Obligations.TimersAndHornFollowTheState : Prop :=
  (∀ s : State, hornSounds s = true ↔ s.panel.horn = .continuous ∨ (s.panel.horn = .intermittent ∧ s.panel.hornPhaseMs < 500))
    ∧ (∀ (s t : State) (c : Instr), exec c s = .next t → t.panel.horn = .intermittent →
        (s.panel.horn ≠ .intermittent → t.panel.hornPhaseMs = 0 ∧ hornSounds t = true)
        ∧ (s.panel.horn = .intermittent → t.panel.hornPhaseMs = s.panel.hornPhaseMs))
    ∧ (∀ s : State, s.pending = [] → s.panel.horn = .intermittent → s.panel.hornPhaseMs < 4000 →
        ∃ t, step s = .next t ∧ t.panel.horn = .intermittent
          ∧ t.panel.hornPhaseMs = (if s.panel.hornPhaseMs = 3999 then 0 else s.panel.hornPhaseMs + 1))
    ∧ (∀ s t : State, TimersInv s → step s = .next t → TimersInv t)
    ∧ ∀ s t : State, TimersInv s → HornInv s → step s = .next t → HornInv t

/-- Every invariant stated here holds right after reset. Values of State.reset that the manual does not give are the model's, assumptions 11 to
16. -/
def Obligations.InvariantsHoldAtReset : Prop :=
  FirstOutInv State.reset ∧ OwnKnownInv State.reset ∧ UnusedQuietInv State.reset ∧ LossInv State.reset ∧ ReportInv State.reset
    ∧ OperatorInv State.reset ∧ ReportChainInv State.reset ∧ FailureInv State.reset ∧ AttemptInv State.reset ∧ SequencerInv State.reset
    ∧ TimersInv State.reset ∧ HornInv State.reset ∧ ResetInv State.reset

/-- The line state moves only as the table of section 5.1 lays down, by the commands it names; HALTED and every other state are left for OFF by
hardware reset alone (R48, R88, R90). -/
def Obligations.LineStateMovesByItsTable : Prop :=
  ∀ (s t : State) (c : Instr), exec c s = .next t → lineStateMayPass c s.seq.state t.seq.state = true

/-! ## Encodings -/

/-- Every content that the layouts of R56 to R62 admit reads back from the payload built for it, with every field at every value; and the payload
holds each field in the bytes and bits that the layouts give it, most significant byte first (R53, R55 to R62). -/
def Obligations.PayloadsReadBack : Prop :=
  (∀ content : FrameContent, contentFits content = true → readPayload (classOf content) (buildPayload content) = some content)
  ∧ (∀ w : WireRecord,
      recordBytes w
        = [BitVec.ofNat 8 (32 * w.code.toNat + 16 * w.firstOut.toNat + 8 * w.silenced.toNat), w.changeCount,
            BitVec.ofNat 8 (w.alertMark.toNat / 256), BitVec.ofNat 8 w.alertMark.toNat])
  ∧ (∀ x : Word, wordBytes x = [BitVec.ofNat 8 (x.toNat / 256), BitVec.ofNat 8 x.toNat])
  ∧ (∀ (p : PointIndex) (w : WireRecord) (d : Word), buildPayload (.point p w d) = BitVec.ofNat 8 p.val :: (recordBytes w ++ wordBytes d))
  ∧ (∀ (op : Operation) (g h d : Word),
      buildPayload (.operator op g h d)
        = (match op with | .ack => 1 | .silence => 2 | .reset => 3) :: (wordBytes g ++ (wordBytes h ++ wordBytes d)))
  ∧ (∀ (d : Word) (reason : JoinReason),
      buildPayload (.join d reason) = wordBytes d ++ [(match reason with | .hardwareReset => 1 | .softRestart => 2 | .afterWithdrawal => 3 : Byte)])
  ∧ (∀ (w : Window) (total : Nat) (count : Option Word) (d : Word),
      buildPayload (.start w total count d)
        = [0, BitVec.ofNat 8 ((if total = 0 then 1 else 0) + (if count.isSome then 2 else 0)), BitVec.ofNat 8 w.rowLow, BitVec.ofNat 8 w.rowHigh,
            BitVec.ofNat 8 w.columnLow, BitVec.ofNat 8 w.columnHigh, BitVec.ofNat 8 total]
          ++ (wordBytes (count.getD 0) ++ wordBytes d))
  ∧ (∀ (part : Nat) (last : Bool) (r1 r2 r3 : WireRecord),
      buildPayload (.data part last [r1]) = [BitVec.ofNat 8 part, if last then 1 else 0] ++ recordBytes r1
      ∧ buildPayload (.data part last [r1, r2]) = [BitVec.ofNat 8 part, if last then 1 else 0] ++ (recordBytes r1 ++ recordBytes r2)
      ∧ buildPayload (.data part last [r1, r2, r3])
          = [BitVec.ofNat 8 part, if last then 1 else 0] ++ (recordBytes r1 ++ (recordBytes r2 ++ recordBytes r3)))
  ∧ (∀ (d : Word) (count : Option Word) (state : LineState),
      buildPayload (.presence d count state)
        = wordBytes d ++ (wordBytes (count.getD 0)
            ++ [BitVec.ofNat 8 ((if count.isSome then 128 else 0)
                + match state with
                  | .off => 0 | .listening => 1 | .joining => 2 | .syncing => 3 | .synced => 4 | .withdrawn => 5 | .halted => 6)]))
  ∧ (∀ (t : Fin 31) (half : Bool) (w : Window),
      buildPayload (.query (.status t)) = [1, BitVec.ofNat 8 t.val] ∧ buildPayload (.query (.restart t)) = [4, BitVec.ofNat 8 t.val]
      ∧ buildPayload (.query (.members t half)) = [2, BitVec.ofNat 8 t.val, if half then 1 else 0]
      ∧ buildPayload (.query (.region t w))
          = [3, BitVec.ofNat 8 t.val, BitVec.ofNat 8 w.rowLow, BitVec.ofNat 8 w.rowHigh, BitVec.ofNat 8 w.columnLow, BitVec.ofNat 8 w.columnHigh])
  ∧ (∀ (requester : Byte) (body : List Byte),
      buildPayload (.reply .status requester body) = 1 :: requester :: body
      ∧ buildPayload (.reply .members requester body) = 2 :: requester :: body)
  ∧ ∀ f : FrameClass, ∀ sender : StationField,
      (arbitrationField f sender).toNat
        = 32 * (match f with
            | .point => 0 | .operator => 1 | .join => 2 | .snapshot => 3 | .presence => 4 | .query => 5 | .reply => 6 | .unassigned => 7)
          + sender.toNat

/-- A receiver takes out exactly the bits that insertion put in, and judges the span of every frame of 0 to 16 payload bytes sound: no coding break,
no length fault, no check fault. Read bit by bit on LRX, the whole frame as sent is the frame command of its class, number and payload, with the
recessive bit times seen ahead of it; with a dominant delimiter it is a delimiter fault, and with a dominant bit in its void slot a void seen. A
receiver finds a coding break at the fifth equal bit of a span, be it a bit of the header, the payload or the check, or the inserted bit behind it;
a length fault at a length field of 17 to 31; and a check fault wherever the check received is not the one computed, and each once it has read so
far. A station that awaits an idle gap passes over whatever it reads before it has seen 11 recessive bit times in a row, and reads the frame that
follows them. Behind a fault mark the dominant levels up to its release are passed over. Its sender, where the line reads as it drives it, comes to
its successful end (R33, R34, R35, R38, R39, R40, R54). The inserted bit after a run that ends with the check is assumption 10, the count of
recessive bit times carried by a command assumption 26, and that a station which awaits no idle gap takes a start bit behind fewer than 11 of them
assumption 30; where the next frame's readings begin behind a mark is assumption 32. -/
def Obligations.SentFramesAreJudgedSound : Prop :=
  (∀ bits : List Bool, removeBits (insertBits bits) = some bits)
    ∧ (∀ (gap : Nat) (arbitration : Byte) (n : Nat) (body sent after : List Bool) (k : Nat) (level : Bool), n ≤ 31 →
        body.length = (if n ≤ 16 then 8 * n + 16 else 0) →
        sent = insertBits (false :: (byteBits arbitration ++ lengthBits n ++ body)) →
        4 ≤ k → k + 1 < sent.length → (sent.drop (k - 4)).take 4 = List.replicate 4 level →
        readFrame gap (sent.take k ++ level :: after) = some (.faultyFrameReceived ⟨gap, .codingBreak⟩)
          ∧ judgeSpan (sent.take k ++ level :: after) = some .codingBreak)
    ∧ (∀ (gap : Nat) (arbitration : Byte) (n : Nat) (after : List Bool), 17 ≤ n → n ≤ 31 →
        readFrame gap (insertBits (false :: (byteBits arbitration ++ lengthBits n)) ++ after)
            = some (.faultyFrameReceived ⟨gap, .lengthFault⟩)
          ∧ judgeSpan (insertBits (false :: (byteBits arbitration ++ lengthBits n ++ after))) = some .lengthFault)
    ∧ (∀ (gap : Nat) (arbitration : Byte) (payload : List Byte) (check : Word) (after : List Bool), payload.length ≤ 16 →
        check ≠ checkOfBits (checkedBits arbitration payload) →
        readFrame gap (insertBits (false :: (checkedBits arbitration payload ++ wordBits check)) ++ after)
            = some (.faultyFrameReceived ⟨gap, .checkFault⟩)
          ∧ judgeSpan (insertBits (false :: (checkedBits arbitration payload ++ wordBits check))) = some .checkFault)
    ∧ ∀ (cls : FrameClass) (sender : StationField) (payload : List Byte) (gap : Nat), payload.length ≤ 16 →
        judgeSpan (insertBits (spanBits (arbitrationField cls sender) payload)) = none
        ∧ readLine false (List.replicate gap true ++ frameBits cls sender payload) = some (frameCommand cls ⟨gap, sender⟩ payload)
        ∧ (∀ before : List Bool, (before = [] ∨ before.getLast? = some false) → ¬ List.replicate 11 true <:+: before → 11 ≤ gap →
            readLine true (before ++ (List.replicate gap true ++ frameBits cls sender payload)) = some (frameCommand cls ⟨gap, sender⟩ payload))
        ∧ (∀ marked : Nat, 1 ≤ gap →
            readBehindMark (List.replicate marked false ++ (List.replicate gap true ++ frameBits cls sender payload))
              = some (frameCommand cls ⟨gap, sender⟩ payload))
        ∧ attemptEnd (arbitrationField cls sender) payload (frameBits cls sender payload) = .successful
        ∧ ∀ rest : List Bool,
            (∀ (before : List Bool) (level : Bool),
              insertBits (spanBits (arbitrationField cls sender) payload) = before ++ (List.replicate 4 level ++ [!level]) →
              readFrame gap (before ++ (List.replicate 5 level ++ rest)) = some (.faultyFrameReceived ⟨gap, .codingBreak⟩)
                ∧ judgeSpan (before ++ List.replicate 5 level) = some .codingBreak)
            ∧ readFrame gap (insertBits (spanBits (arbitrationField cls sender) payload) ++ false :: rest)
              = some (.faultyFrameReceived ⟨gap, .delimiterFault⟩)
            ∧ readFrame gap (insertBits (spanBits (arbitrationField cls sender) payload) ++ true :: false :: true :: rest)
              = some .voidSeen
            ∧ readFrame gap (insertBits (spanBits (arbitrationField cls sender) payload) ++ true :: true :: false :: rest)
              = some .voidSeen
end

