-- ==== Sys2Proof/Laws/Bytes.lean ====
section
/-! SUPPORT. What pins are read as, and the fields of chapter 3 read back as they were built. -/

namespace Sys2Proof.Machine

open Sys2Proof

/-- A strap bit of the number is 1 where its pin reads high (R190, R202). -/
@[simp] theorem strapsRead_stn (pins : InputPins) (i : Fin 5) : (strapsRead pins).stn.getLsbD i.val = pulledUp pins.stn[i] := by
  simp only [strapsRead, BitVec.getLsbD_ofFnLE, i.isLt, dite_true]

/-- A strap bit of the rate setting is 1 where its pin reads high (R190, R202). -/
@[simp] theorem strapsRead_rate (pins : InputPins) (i : Fin 2) : (strapsRead pins).rate.getLsbD i.val = pulledUp pins.rate[i] := by
  simp only [strapsRead, BitVec.getLsbD_ofFnLE, i.isLt, dite_true]

/-- A pin reads its contact closed just where it is low (R201, R202). -/
@[simp] theorem contactRead_eq_closed (pin : PinLevel) : contactRead pin = .closed ↔ pin = .low := by cases pin <;> decide

/-- A pin reads its contact open just where it is not low (R201, R202). -/
@[simp] theorem contactRead_eq_opened (pin : PinLevel) : contactRead pin = .opened ↔ pin ≠ .low := by cases pin <;> decide

/-- A contact wired to ground is read from its pin (R201). -/
@[simp] theorem contactRead_contactPin (c : Contact) : contactRead (contactPin c) = c := by cases c <;> rfl

/-- A word's two bytes joined are the word (R53). -/
@[simp] theorem joinBytes_high_low (w : Word) : joinBytes (highByte w) (lowByte w) = w := by
  simp only [joinBytes, highByte, lowByte]
  ext i hi
  simp only [BitVec.getElem_append, BitVec.getElem_extractLsb']
  split
  · simp [BitVec.getLsbD_eq_getElem, hi]
  · have h : 8 + (i - 8) = i := by omega
    simp only [h, BitVec.getLsbD_eq_getElem hi]

/-- The first byte of a record gives back its state code (R55). -/
@[simp] theorem recordHead_code (w : WireRecord) : (recordHead w).extractLsb' 5 3 = w.code := by
  simp only [recordHead]
  ext i hi
  simp only [BitVec.getElem_extractLsb', BitVec.getLsbD_append]
  have h : ¬ 5 + i < 5 := by omega
  simp [BitVec.getLsbD_eq_getElem, hi]

/-- The first byte of a record gives back its first_out flag (R55). -/
@[simp] theorem recordHead_firstOut (w : WireRecord) : (recordHead w)[4] = w.firstOut := by
  have h : ∀ (c : BitVec 3) (f q : Bool), (c ++ (BitVec.ofBool f ++ (BitVec.ofBool q ++ (0 : BitVec 3))))[4] = f := by decide
  exact h w.code w.firstOut w.silenced

/-- The first byte of a record gives back its silenced flag (R55). -/
@[simp] theorem recordHead_silenced (w : WireRecord) : (recordHead w)[3] = w.silenced := by
  have h : ∀ (c : BitVec 3) (f q : Bool), (c ++ (BitVec.ofBool f ++ (BitVec.ofBool q ++ (0 : BitVec 3))))[3] = q := by decide
  exact h w.code w.firstOut w.silenced

/-- A record reads back from its four bytes (R55). -/
@[simp] theorem readRecord_recordBytes (w : WireRecord) :
    readRecord (recordHead w) w.changeCount (highByte w.alertMark) (lowByte w.alertMark) = w := by
  simp [readRecord]

/-- A run of records reads back (R59). -/
theorem readRecords_flatMap (rs : List WireRecord) : readRecords (rs.flatMap recordBytes) = some rs := by
  induction rs with
  | nil => rfl
  | cons r rest ih => simp [recordBytes, readRecords, ih]

/-- Every state's code names it (R55). -/
@[simp] theorem stateOfCode_codeOfState (s : PointState) : stateOfCode (codeOfState s) = some s := by
  cases s <;> rfl

/-- Every line state's code names it (R60). -/
@[simp] theorem lineStateOfCode_codeOfLineState (s : LineState) : lineStateOfCode (codeOfLineState s) = some s := by
  cases s <;> rfl

end Sys2Proof.Machine
end

