-- ==== Sys2Proof/Laws/State.lean ====
section
/-! SUPPORT. Reading a block after an update: one lemma for each block and each update, true by `rfl`. -/

namespace Sys2Proof.Machine

variable (s : State)

@[simp] theorem State.loader_setLoader (x : Loader) : (s.setLoader x).loader = x := rfl
@[simp] theorem State.hold_setLoader (x : Loader) : (s.setLoader x).hold = s.hold := rfl
@[simp] theorem State.pins_setLoader (x : Loader) : (s.setLoader x).pins = s.pins := rfl
@[simp] theorem State.cfg_setLoader (x : Loader) : (s.setLoader x).cfg = s.cfg := rfl
@[simp] theorem State.points_setLoader (x : Loader) : (s.setLoader x).points = s.points := rfl
@[simp] theorem State.line_setLoader (x : Loader) : (s.setLoader x).line = s.line := rfl
@[simp] theorem State.seq_setLoader (x : Loader) : (s.setLoader x).seq = s.seq := rfl
@[simp] theorem State.members_setLoader (x : Loader) : (s.setLoader x).members = s.members := rfl
@[simp] theorem State.transfer_setLoader (x : Loader) : (s.setLoader x).transfer = s.transfer := rfl
@[simp] theorem State.scanner_setLoader (x : Loader) : (s.setLoader x).scanner = s.scanner := rfl
@[simp] theorem State.panel_setLoader (x : Loader) : (s.setLoader x).panel = s.panel := rfl
@[simp] theorem State.timers_setLoader (x : Loader) : (s.setLoader x).timers = s.timers := rfl
@[simp] theorem State.lamp_setLoader (x : Loader) : (s.setLoader x).lamp = s.lamp := rfl
@[simp] theorem State.responder_setLoader (x : Loader) : (s.setLoader x).responder = s.responder := rfl
@[simp] theorem State.raised_setLoader (x : Loader) : (s.setLoader x).raised = s.raised := rfl
@[simp] theorem State.pending_setLoader (x : Loader) : (s.setLoader x).pending = s.pending := rfl

@[simp] theorem State.loader_setHold (x : ResetHold) : (s.setHold x).loader = s.loader := rfl
@[simp] theorem State.hold_setHold (x : ResetHold) : (s.setHold x).hold = x := rfl
@[simp] theorem State.pins_setHold (x : ResetHold) : (s.setHold x).pins = s.pins := rfl
@[simp] theorem State.cfg_setHold (x : ResetHold) : (s.setHold x).cfg = s.cfg := rfl
@[simp] theorem State.points_setHold (x : ResetHold) : (s.setHold x).points = s.points := rfl
@[simp] theorem State.line_setHold (x : ResetHold) : (s.setHold x).line = s.line := rfl
@[simp] theorem State.seq_setHold (x : ResetHold) : (s.setHold x).seq = s.seq := rfl
@[simp] theorem State.members_setHold (x : ResetHold) : (s.setHold x).members = s.members := rfl
@[simp] theorem State.transfer_setHold (x : ResetHold) : (s.setHold x).transfer = s.transfer := rfl
@[simp] theorem State.scanner_setHold (x : ResetHold) : (s.setHold x).scanner = s.scanner := rfl
@[simp] theorem State.panel_setHold (x : ResetHold) : (s.setHold x).panel = s.panel := rfl
@[simp] theorem State.timers_setHold (x : ResetHold) : (s.setHold x).timers = s.timers := rfl
@[simp] theorem State.lamp_setHold (x : ResetHold) : (s.setHold x).lamp = s.lamp := rfl
@[simp] theorem State.responder_setHold (x : ResetHold) : (s.setHold x).responder = s.responder := rfl
@[simp] theorem State.raised_setHold (x : ResetHold) : (s.setHold x).raised = s.raised := rfl
@[simp] theorem State.pending_setHold (x : ResetHold) : (s.setHold x).pending = s.pending := rfl

@[simp] theorem State.loader_setPins (x : InputPins) : (s.setPins x).loader = s.loader := rfl
@[simp] theorem State.hold_setPins (x : InputPins) : (s.setPins x).hold = s.hold := rfl
@[simp] theorem State.pins_setPins (x : InputPins) : (s.setPins x).pins = x := rfl
@[simp] theorem State.cfg_setPins (x : InputPins) : (s.setPins x).cfg = s.cfg := rfl
@[simp] theorem State.points_setPins (x : InputPins) : (s.setPins x).points = s.points := rfl
@[simp] theorem State.line_setPins (x : InputPins) : (s.setPins x).line = s.line := rfl
@[simp] theorem State.seq_setPins (x : InputPins) : (s.setPins x).seq = s.seq := rfl
@[simp] theorem State.members_setPins (x : InputPins) : (s.setPins x).members = s.members := rfl
@[simp] theorem State.transfer_setPins (x : InputPins) : (s.setPins x).transfer = s.transfer := rfl
@[simp] theorem State.scanner_setPins (x : InputPins) : (s.setPins x).scanner = s.scanner := rfl
@[simp] theorem State.panel_setPins (x : InputPins) : (s.setPins x).panel = s.panel := rfl
@[simp] theorem State.timers_setPins (x : InputPins) : (s.setPins x).timers = s.timers := rfl
@[simp] theorem State.lamp_setPins (x : InputPins) : (s.setPins x).lamp = s.lamp := rfl
@[simp] theorem State.responder_setPins (x : InputPins) : (s.setPins x).responder = s.responder := rfl
@[simp] theorem State.raised_setPins (x : InputPins) : (s.setPins x).raised = s.raised := rfl
@[simp] theorem State.pending_setPins (x : InputPins) : (s.setPins x).pending = s.pending := rfl

@[simp] theorem State.loader_setCfg (x : Configuration) : (s.setCfg x).loader = s.loader := rfl
@[simp] theorem State.hold_setCfg (x : Configuration) : (s.setCfg x).hold = s.hold := rfl
@[simp] theorem State.pins_setCfg (x : Configuration) : (s.setCfg x).pins = s.pins := rfl
@[simp] theorem State.cfg_setCfg (x : Configuration) : (s.setCfg x).cfg = x := rfl
@[simp] theorem State.points_setCfg (x : Configuration) : (s.setCfg x).points = s.points := rfl
@[simp] theorem State.line_setCfg (x : Configuration) : (s.setCfg x).line = s.line := rfl
@[simp] theorem State.seq_setCfg (x : Configuration) : (s.setCfg x).seq = s.seq := rfl
@[simp] theorem State.members_setCfg (x : Configuration) : (s.setCfg x).members = s.members := rfl
@[simp] theorem State.transfer_setCfg (x : Configuration) : (s.setCfg x).transfer = s.transfer := rfl
@[simp] theorem State.scanner_setCfg (x : Configuration) : (s.setCfg x).scanner = s.scanner := rfl
@[simp] theorem State.panel_setCfg (x : Configuration) : (s.setCfg x).panel = s.panel := rfl
@[simp] theorem State.timers_setCfg (x : Configuration) : (s.setCfg x).timers = s.timers := rfl
@[simp] theorem State.lamp_setCfg (x : Configuration) : (s.setCfg x).lamp = s.lamp := rfl
@[simp] theorem State.responder_setCfg (x : Configuration) : (s.setCfg x).responder = s.responder := rfl
@[simp] theorem State.raised_setCfg (x : Configuration) : (s.setCfg x).raised = s.raised := rfl
@[simp] theorem State.pending_setCfg (x : Configuration) : (s.setCfg x).pending = s.pending := rfl

@[simp] theorem State.loader_setPoints (x : Vector PointRecord 256) : (s.setPoints x).loader = s.loader := rfl
@[simp] theorem State.hold_setPoints (x : Vector PointRecord 256) : (s.setPoints x).hold = s.hold := rfl
@[simp] theorem State.pins_setPoints (x : Vector PointRecord 256) : (s.setPoints x).pins = s.pins := rfl
@[simp] theorem State.cfg_setPoints (x : Vector PointRecord 256) : (s.setPoints x).cfg = s.cfg := rfl
@[simp] theorem State.points_setPoints (x : Vector PointRecord 256) : (s.setPoints x).points = x := rfl
@[simp] theorem State.line_setPoints (x : Vector PointRecord 256) : (s.setPoints x).line = s.line := rfl
@[simp] theorem State.seq_setPoints (x : Vector PointRecord 256) : (s.setPoints x).seq = s.seq := rfl
@[simp] theorem State.members_setPoints (x : Vector PointRecord 256) : (s.setPoints x).members = s.members := rfl
@[simp] theorem State.transfer_setPoints (x : Vector PointRecord 256) : (s.setPoints x).transfer = s.transfer := rfl
@[simp] theorem State.scanner_setPoints (x : Vector PointRecord 256) : (s.setPoints x).scanner = s.scanner := rfl
@[simp] theorem State.panel_setPoints (x : Vector PointRecord 256) : (s.setPoints x).panel = s.panel := rfl
@[simp] theorem State.timers_setPoints (x : Vector PointRecord 256) : (s.setPoints x).timers = s.timers := rfl
@[simp] theorem State.lamp_setPoints (x : Vector PointRecord 256) : (s.setPoints x).lamp = s.lamp := rfl
@[simp] theorem State.responder_setPoints (x : Vector PointRecord 256) : (s.setPoints x).responder = s.responder := rfl
@[simp] theorem State.raised_setPoints (x : Vector PointRecord 256) : (s.setPoints x).raised = s.raised := rfl
@[simp] theorem State.pending_setPoints (x : Vector PointRecord 256) : (s.setPoints x).pending = s.pending := rfl

@[simp] theorem State.loader_setLine (x : LineController) : (s.setLine x).loader = s.loader := rfl
@[simp] theorem State.hold_setLine (x : LineController) : (s.setLine x).hold = s.hold := rfl
@[simp] theorem State.pins_setLine (x : LineController) : (s.setLine x).pins = s.pins := rfl
@[simp] theorem State.cfg_setLine (x : LineController) : (s.setLine x).cfg = s.cfg := rfl
@[simp] theorem State.points_setLine (x : LineController) : (s.setLine x).points = s.points := rfl
@[simp] theorem State.line_setLine (x : LineController) : (s.setLine x).line = x := rfl
@[simp] theorem State.seq_setLine (x : LineController) : (s.setLine x).seq = s.seq := rfl
@[simp] theorem State.members_setLine (x : LineController) : (s.setLine x).members = s.members := rfl
@[simp] theorem State.transfer_setLine (x : LineController) : (s.setLine x).transfer = s.transfer := rfl
@[simp] theorem State.scanner_setLine (x : LineController) : (s.setLine x).scanner = s.scanner := rfl
@[simp] theorem State.panel_setLine (x : LineController) : (s.setLine x).panel = s.panel := rfl
@[simp] theorem State.timers_setLine (x : LineController) : (s.setLine x).timers = s.timers := rfl
@[simp] theorem State.lamp_setLine (x : LineController) : (s.setLine x).lamp = s.lamp := rfl
@[simp] theorem State.responder_setLine (x : LineController) : (s.setLine x).responder = s.responder := rfl
@[simp] theorem State.raised_setLine (x : LineController) : (s.setLine x).raised = s.raised := rfl
@[simp] theorem State.pending_setLine (x : LineController) : (s.setLine x).pending = s.pending := rfl

@[simp] theorem State.loader_setSeq (x : Sequencer) : (s.setSeq x).loader = s.loader := rfl
@[simp] theorem State.hold_setSeq (x : Sequencer) : (s.setSeq x).hold = s.hold := rfl
@[simp] theorem State.pins_setSeq (x : Sequencer) : (s.setSeq x).pins = s.pins := rfl
@[simp] theorem State.cfg_setSeq (x : Sequencer) : (s.setSeq x).cfg = s.cfg := rfl
@[simp] theorem State.points_setSeq (x : Sequencer) : (s.setSeq x).points = s.points := rfl
@[simp] theorem State.line_setSeq (x : Sequencer) : (s.setSeq x).line = s.line := rfl
@[simp] theorem State.seq_setSeq (x : Sequencer) : (s.setSeq x).seq = x := rfl
@[simp] theorem State.members_setSeq (x : Sequencer) : (s.setSeq x).members = s.members := rfl
@[simp] theorem State.transfer_setSeq (x : Sequencer) : (s.setSeq x).transfer = s.transfer := rfl
@[simp] theorem State.scanner_setSeq (x : Sequencer) : (s.setSeq x).scanner = s.scanner := rfl
@[simp] theorem State.panel_setSeq (x : Sequencer) : (s.setSeq x).panel = s.panel := rfl
@[simp] theorem State.timers_setSeq (x : Sequencer) : (s.setSeq x).timers = s.timers := rfl
@[simp] theorem State.lamp_setSeq (x : Sequencer) : (s.setSeq x).lamp = s.lamp := rfl
@[simp] theorem State.responder_setSeq (x : Sequencer) : (s.setSeq x).responder = s.responder := rfl
@[simp] theorem State.raised_setSeq (x : Sequencer) : (s.setSeq x).raised = s.raised := rfl
@[simp] theorem State.pending_setSeq (x : Sequencer) : (s.setSeq x).pending = s.pending := rfl

@[simp] theorem State.loader_setMembers (x : MembershipTable) : (s.setMembers x).loader = s.loader := rfl
@[simp] theorem State.hold_setMembers (x : MembershipTable) : (s.setMembers x).hold = s.hold := rfl
@[simp] theorem State.pins_setMembers (x : MembershipTable) : (s.setMembers x).pins = s.pins := rfl
@[simp] theorem State.cfg_setMembers (x : MembershipTable) : (s.setMembers x).cfg = s.cfg := rfl
@[simp] theorem State.points_setMembers (x : MembershipTable) : (s.setMembers x).points = s.points := rfl
@[simp] theorem State.line_setMembers (x : MembershipTable) : (s.setMembers x).line = s.line := rfl
@[simp] theorem State.seq_setMembers (x : MembershipTable) : (s.setMembers x).seq = s.seq := rfl
@[simp] theorem State.members_setMembers (x : MembershipTable) : (s.setMembers x).members = x := rfl
@[simp] theorem State.transfer_setMembers (x : MembershipTable) : (s.setMembers x).transfer = s.transfer := rfl
@[simp] theorem State.scanner_setMembers (x : MembershipTable) : (s.setMembers x).scanner = s.scanner := rfl
@[simp] theorem State.panel_setMembers (x : MembershipTable) : (s.setMembers x).panel = s.panel := rfl
@[simp] theorem State.timers_setMembers (x : MembershipTable) : (s.setMembers x).timers = s.timers := rfl
@[simp] theorem State.lamp_setMembers (x : MembershipTable) : (s.setMembers x).lamp = s.lamp := rfl
@[simp] theorem State.responder_setMembers (x : MembershipTable) : (s.setMembers x).responder = s.responder := rfl
@[simp] theorem State.raised_setMembers (x : MembershipTable) : (s.setMembers x).raised = s.raised := rfl
@[simp] theorem State.pending_setMembers (x : MembershipTable) : (s.setMembers x).pending = s.pending := rfl

@[simp] theorem State.loader_setTransfer (x : TransferUnit) : (s.setTransfer x).loader = s.loader := rfl
@[simp] theorem State.hold_setTransfer (x : TransferUnit) : (s.setTransfer x).hold = s.hold := rfl
@[simp] theorem State.pins_setTransfer (x : TransferUnit) : (s.setTransfer x).pins = s.pins := rfl
@[simp] theorem State.cfg_setTransfer (x : TransferUnit) : (s.setTransfer x).cfg = s.cfg := rfl
@[simp] theorem State.points_setTransfer (x : TransferUnit) : (s.setTransfer x).points = s.points := rfl
@[simp] theorem State.line_setTransfer (x : TransferUnit) : (s.setTransfer x).line = s.line := rfl
@[simp] theorem State.seq_setTransfer (x : TransferUnit) : (s.setTransfer x).seq = s.seq := rfl
@[simp] theorem State.members_setTransfer (x : TransferUnit) : (s.setTransfer x).members = s.members := rfl
@[simp] theorem State.transfer_setTransfer (x : TransferUnit) : (s.setTransfer x).transfer = x := rfl
@[simp] theorem State.scanner_setTransfer (x : TransferUnit) : (s.setTransfer x).scanner = s.scanner := rfl
@[simp] theorem State.panel_setTransfer (x : TransferUnit) : (s.setTransfer x).panel = s.panel := rfl
@[simp] theorem State.timers_setTransfer (x : TransferUnit) : (s.setTransfer x).timers = s.timers := rfl
@[simp] theorem State.lamp_setTransfer (x : TransferUnit) : (s.setTransfer x).lamp = s.lamp := rfl
@[simp] theorem State.responder_setTransfer (x : TransferUnit) : (s.setTransfer x).responder = s.responder := rfl
@[simp] theorem State.raised_setTransfer (x : TransferUnit) : (s.setTransfer x).raised = s.raised := rfl
@[simp] theorem State.pending_setTransfer (x : TransferUnit) : (s.setTransfer x).pending = s.pending := rfl

@[simp] theorem State.loader_setScanner (x : InputScanner) : (s.setScanner x).loader = s.loader := rfl
@[simp] theorem State.hold_setScanner (x : InputScanner) : (s.setScanner x).hold = s.hold := rfl
@[simp] theorem State.pins_setScanner (x : InputScanner) : (s.setScanner x).pins = s.pins := rfl
@[simp] theorem State.cfg_setScanner (x : InputScanner) : (s.setScanner x).cfg = s.cfg := rfl
@[simp] theorem State.points_setScanner (x : InputScanner) : (s.setScanner x).points = s.points := rfl
@[simp] theorem State.line_setScanner (x : InputScanner) : (s.setScanner x).line = s.line := rfl
@[simp] theorem State.seq_setScanner (x : InputScanner) : (s.setScanner x).seq = s.seq := rfl
@[simp] theorem State.members_setScanner (x : InputScanner) : (s.setScanner x).members = s.members := rfl
@[simp] theorem State.transfer_setScanner (x : InputScanner) : (s.setScanner x).transfer = s.transfer := rfl
@[simp] theorem State.scanner_setScanner (x : InputScanner) : (s.setScanner x).scanner = x := rfl
@[simp] theorem State.panel_setScanner (x : InputScanner) : (s.setScanner x).panel = s.panel := rfl
@[simp] theorem State.timers_setScanner (x : InputScanner) : (s.setScanner x).timers = s.timers := rfl
@[simp] theorem State.lamp_setScanner (x : InputScanner) : (s.setScanner x).lamp = s.lamp := rfl
@[simp] theorem State.responder_setScanner (x : InputScanner) : (s.setScanner x).responder = s.responder := rfl
@[simp] theorem State.raised_setScanner (x : InputScanner) : (s.setScanner x).raised = s.raised := rfl
@[simp] theorem State.pending_setScanner (x : InputScanner) : (s.setScanner x).pending = s.pending := rfl

@[simp] theorem State.loader_setPanel (x : OperatorInterface) : (s.setPanel x).loader = s.loader := rfl
@[simp] theorem State.hold_setPanel (x : OperatorInterface) : (s.setPanel x).hold = s.hold := rfl
@[simp] theorem State.pins_setPanel (x : OperatorInterface) : (s.setPanel x).pins = s.pins := rfl
@[simp] theorem State.cfg_setPanel (x : OperatorInterface) : (s.setPanel x).cfg = s.cfg := rfl
@[simp] theorem State.points_setPanel (x : OperatorInterface) : (s.setPanel x).points = s.points := rfl
@[simp] theorem State.line_setPanel (x : OperatorInterface) : (s.setPanel x).line = s.line := rfl
@[simp] theorem State.seq_setPanel (x : OperatorInterface) : (s.setPanel x).seq = s.seq := rfl
@[simp] theorem State.members_setPanel (x : OperatorInterface) : (s.setPanel x).members = s.members := rfl
@[simp] theorem State.transfer_setPanel (x : OperatorInterface) : (s.setPanel x).transfer = s.transfer := rfl
@[simp] theorem State.scanner_setPanel (x : OperatorInterface) : (s.setPanel x).scanner = s.scanner := rfl
@[simp] theorem State.panel_setPanel (x : OperatorInterface) : (s.setPanel x).panel = x := rfl
@[simp] theorem State.timers_setPanel (x : OperatorInterface) : (s.setPanel x).timers = s.timers := rfl
@[simp] theorem State.lamp_setPanel (x : OperatorInterface) : (s.setPanel x).lamp = s.lamp := rfl
@[simp] theorem State.responder_setPanel (x : OperatorInterface) : (s.setPanel x).responder = s.responder := rfl
@[simp] theorem State.raised_setPanel (x : OperatorInterface) : (s.setPanel x).raised = s.raised := rfl
@[simp] theorem State.pending_setPanel (x : OperatorInterface) : (s.setPanel x).pending = s.pending := rfl

@[simp] theorem State.loader_setTimers (x : ActivityTimers) : (s.setTimers x).loader = s.loader := rfl
@[simp] theorem State.hold_setTimers (x : ActivityTimers) : (s.setTimers x).hold = s.hold := rfl
@[simp] theorem State.pins_setTimers (x : ActivityTimers) : (s.setTimers x).pins = s.pins := rfl
@[simp] theorem State.cfg_setTimers (x : ActivityTimers) : (s.setTimers x).cfg = s.cfg := rfl
@[simp] theorem State.points_setTimers (x : ActivityTimers) : (s.setTimers x).points = s.points := rfl
@[simp] theorem State.line_setTimers (x : ActivityTimers) : (s.setTimers x).line = s.line := rfl
@[simp] theorem State.seq_setTimers (x : ActivityTimers) : (s.setTimers x).seq = s.seq := rfl
@[simp] theorem State.members_setTimers (x : ActivityTimers) : (s.setTimers x).members = s.members := rfl
@[simp] theorem State.transfer_setTimers (x : ActivityTimers) : (s.setTimers x).transfer = s.transfer := rfl
@[simp] theorem State.scanner_setTimers (x : ActivityTimers) : (s.setTimers x).scanner = s.scanner := rfl
@[simp] theorem State.panel_setTimers (x : ActivityTimers) : (s.setTimers x).panel = s.panel := rfl
@[simp] theorem State.timers_setTimers (x : ActivityTimers) : (s.setTimers x).timers = x := rfl
@[simp] theorem State.lamp_setTimers (x : ActivityTimers) : (s.setTimers x).lamp = s.lamp := rfl
@[simp] theorem State.responder_setTimers (x : ActivityTimers) : (s.setTimers x).responder = s.responder := rfl
@[simp] theorem State.raised_setTimers (x : ActivityTimers) : (s.setTimers x).raised = s.raised := rfl
@[simp] theorem State.pending_setTimers (x : ActivityTimers) : (s.setTimers x).pending = s.pending := rfl

@[simp] theorem State.loader_setLamp (x : LampDriver) : (s.setLamp x).loader = s.loader := rfl
@[simp] theorem State.hold_setLamp (x : LampDriver) : (s.setLamp x).hold = s.hold := rfl
@[simp] theorem State.pins_setLamp (x : LampDriver) : (s.setLamp x).pins = s.pins := rfl
@[simp] theorem State.cfg_setLamp (x : LampDriver) : (s.setLamp x).cfg = s.cfg := rfl
@[simp] theorem State.points_setLamp (x : LampDriver) : (s.setLamp x).points = s.points := rfl
@[simp] theorem State.line_setLamp (x : LampDriver) : (s.setLamp x).line = s.line := rfl
@[simp] theorem State.seq_setLamp (x : LampDriver) : (s.setLamp x).seq = s.seq := rfl
@[simp] theorem State.members_setLamp (x : LampDriver) : (s.setLamp x).members = s.members := rfl
@[simp] theorem State.transfer_setLamp (x : LampDriver) : (s.setLamp x).transfer = s.transfer := rfl
@[simp] theorem State.scanner_setLamp (x : LampDriver) : (s.setLamp x).scanner = s.scanner := rfl
@[simp] theorem State.panel_setLamp (x : LampDriver) : (s.setLamp x).panel = s.panel := rfl
@[simp] theorem State.timers_setLamp (x : LampDriver) : (s.setLamp x).timers = s.timers := rfl
@[simp] theorem State.lamp_setLamp (x : LampDriver) : (s.setLamp x).lamp = x := rfl
@[simp] theorem State.responder_setLamp (x : LampDriver) : (s.setLamp x).responder = s.responder := rfl
@[simp] theorem State.raised_setLamp (x : LampDriver) : (s.setLamp x).raised = s.raised := rfl
@[simp] theorem State.pending_setLamp (x : LampDriver) : (s.setLamp x).pending = s.pending := rfl

@[simp] theorem State.loader_setResponder (x : Option ReplyRequest) : (s.setResponder x).loader = s.loader := rfl
@[simp] theorem State.hold_setResponder (x : Option ReplyRequest) : (s.setResponder x).hold = s.hold := rfl
@[simp] theorem State.pins_setResponder (x : Option ReplyRequest) : (s.setResponder x).pins = s.pins := rfl
@[simp] theorem State.cfg_setResponder (x : Option ReplyRequest) : (s.setResponder x).cfg = s.cfg := rfl
@[simp] theorem State.points_setResponder (x : Option ReplyRequest) : (s.setResponder x).points = s.points := rfl
@[simp] theorem State.line_setResponder (x : Option ReplyRequest) : (s.setResponder x).line = s.line := rfl
@[simp] theorem State.seq_setResponder (x : Option ReplyRequest) : (s.setResponder x).seq = s.seq := rfl
@[simp] theorem State.members_setResponder (x : Option ReplyRequest) : (s.setResponder x).members = s.members := rfl
@[simp] theorem State.transfer_setResponder (x : Option ReplyRequest) : (s.setResponder x).transfer = s.transfer := rfl
@[simp] theorem State.scanner_setResponder (x : Option ReplyRequest) : (s.setResponder x).scanner = s.scanner := rfl
@[simp] theorem State.panel_setResponder (x : Option ReplyRequest) : (s.setResponder x).panel = s.panel := rfl
@[simp] theorem State.timers_setResponder (x : Option ReplyRequest) : (s.setResponder x).timers = s.timers := rfl
@[simp] theorem State.lamp_setResponder (x : Option ReplyRequest) : (s.setResponder x).lamp = s.lamp := rfl
@[simp] theorem State.responder_setResponder (x : Option ReplyRequest) : (s.setResponder x).responder = x := rfl
@[simp] theorem State.raised_setResponder (x : Option ReplyRequest) : (s.setResponder x).raised = s.raised := rfl
@[simp] theorem State.pending_setResponder (x : Option ReplyRequest) : (s.setResponder x).pending = s.pending := rfl

@[simp] theorem State.loader_setRaised (x : Byte) : (s.setRaised x).loader = s.loader := rfl
@[simp] theorem State.hold_setRaised (x : Byte) : (s.setRaised x).hold = s.hold := rfl
@[simp] theorem State.pins_setRaised (x : Byte) : (s.setRaised x).pins = s.pins := rfl
@[simp] theorem State.cfg_setRaised (x : Byte) : (s.setRaised x).cfg = s.cfg := rfl
@[simp] theorem State.points_setRaised (x : Byte) : (s.setRaised x).points = s.points := rfl
@[simp] theorem State.line_setRaised (x : Byte) : (s.setRaised x).line = s.line := rfl
@[simp] theorem State.seq_setRaised (x : Byte) : (s.setRaised x).seq = s.seq := rfl
@[simp] theorem State.members_setRaised (x : Byte) : (s.setRaised x).members = s.members := rfl
@[simp] theorem State.transfer_setRaised (x : Byte) : (s.setRaised x).transfer = s.transfer := rfl
@[simp] theorem State.scanner_setRaised (x : Byte) : (s.setRaised x).scanner = s.scanner := rfl
@[simp] theorem State.panel_setRaised (x : Byte) : (s.setRaised x).panel = s.panel := rfl
@[simp] theorem State.timers_setRaised (x : Byte) : (s.setRaised x).timers = s.timers := rfl
@[simp] theorem State.lamp_setRaised (x : Byte) : (s.setRaised x).lamp = s.lamp := rfl
@[simp] theorem State.responder_setRaised (x : Byte) : (s.setRaised x).responder = s.responder := rfl
@[simp] theorem State.raised_setRaised (x : Byte) : (s.setRaised x).raised = x := rfl
@[simp] theorem State.pending_setRaised (x : Byte) : (s.setRaised x).pending = s.pending := rfl

@[simp] theorem State.loader_setPending (x : List Instr) : (s.setPending x).loader = s.loader := rfl
@[simp] theorem State.hold_setPending (x : List Instr) : (s.setPending x).hold = s.hold := rfl
@[simp] theorem State.pins_setPending (x : List Instr) : (s.setPending x).pins = s.pins := rfl
@[simp] theorem State.cfg_setPending (x : List Instr) : (s.setPending x).cfg = s.cfg := rfl
@[simp] theorem State.points_setPending (x : List Instr) : (s.setPending x).points = s.points := rfl
@[simp] theorem State.line_setPending (x : List Instr) : (s.setPending x).line = s.line := rfl
@[simp] theorem State.seq_setPending (x : List Instr) : (s.setPending x).seq = s.seq := rfl
@[simp] theorem State.members_setPending (x : List Instr) : (s.setPending x).members = s.members := rfl
@[simp] theorem State.transfer_setPending (x : List Instr) : (s.setPending x).transfer = s.transfer := rfl
@[simp] theorem State.scanner_setPending (x : List Instr) : (s.setPending x).scanner = s.scanner := rfl
@[simp] theorem State.panel_setPending (x : List Instr) : (s.setPending x).panel = s.panel := rfl
@[simp] theorem State.timers_setPending (x : List Instr) : (s.setPending x).timers = s.timers := rfl
@[simp] theorem State.lamp_setPending (x : List Instr) : (s.setPending x).lamp = s.lamp := rfl
@[simp] theorem State.responder_setPending (x : List Instr) : (s.setPending x).responder = s.responder := rfl
@[simp] theorem State.raised_setPending (x : List Instr) : (s.setPending x).raised = s.raised := rfl
@[simp] theorem State.pending_setPending (x : List Instr) : (s.setPending x).pending = x := rfl

/-! Replacing a block twice keeps the last; putting a block back as it was changes nothing. -/

@[simp] theorem State.setLoader_setLoader (x y : Loader) : (s.setLoader x).setLoader y = s.setLoader y := rfl
@[simp] theorem State.setLoader_self : s.setLoader s.loader = s := rfl
@[simp] theorem State.setHold_setHold (x y : ResetHold) : (s.setHold x).setHold y = s.setHold y := rfl
@[simp] theorem State.setHold_self : s.setHold s.hold = s := rfl
@[simp] theorem State.setPins_setPins (x y : InputPins) : (s.setPins x).setPins y = s.setPins y := rfl
@[simp] theorem State.setPins_self : s.setPins s.pins = s := rfl
@[simp] theorem State.setCfg_setCfg (x y : Configuration) : (s.setCfg x).setCfg y = s.setCfg y := rfl
@[simp] theorem State.setCfg_self : s.setCfg s.cfg = s := rfl
@[simp] theorem State.setPoints_setPoints (x y : Vector PointRecord 256) : (s.setPoints x).setPoints y = s.setPoints y := rfl
@[simp] theorem State.setPoints_self : s.setPoints s.points = s := rfl
@[simp] theorem State.setLine_setLine (x y : LineController) : (s.setLine x).setLine y = s.setLine y := rfl
@[simp] theorem State.setLine_self : s.setLine s.line = s := rfl
@[simp] theorem State.setSeq_setSeq (x y : Sequencer) : (s.setSeq x).setSeq y = s.setSeq y := rfl
@[simp] theorem State.setSeq_self : s.setSeq s.seq = s := rfl
@[simp] theorem State.setMembers_setMembers (x y : MembershipTable) : (s.setMembers x).setMembers y = s.setMembers y := rfl
@[simp] theorem State.setMembers_self : s.setMembers s.members = s := rfl
@[simp] theorem State.setTransfer_setTransfer (x y : TransferUnit) : (s.setTransfer x).setTransfer y = s.setTransfer y := rfl
@[simp] theorem State.setTransfer_self : s.setTransfer s.transfer = s := rfl
@[simp] theorem State.setScanner_setScanner (x y : InputScanner) : (s.setScanner x).setScanner y = s.setScanner y := rfl
@[simp] theorem State.setScanner_self : s.setScanner s.scanner = s := rfl
@[simp] theorem State.setPanel_setPanel (x y : OperatorInterface) : (s.setPanel x).setPanel y = s.setPanel y := rfl
@[simp] theorem State.setPanel_self : s.setPanel s.panel = s := rfl
@[simp] theorem State.setTimers_setTimers (x y : ActivityTimers) : (s.setTimers x).setTimers y = s.setTimers y := rfl
@[simp] theorem State.setTimers_self : s.setTimers s.timers = s := rfl
@[simp] theorem State.setLamp_setLamp (x y : LampDriver) : (s.setLamp x).setLamp y = s.setLamp y := rfl
@[simp] theorem State.setLamp_self : s.setLamp s.lamp = s := rfl
@[simp] theorem State.setResponder_setResponder (x y : Option ReplyRequest) : (s.setResponder x).setResponder y = s.setResponder y := rfl
@[simp] theorem State.setResponder_self : s.setResponder s.responder = s := rfl
@[simp] theorem State.setRaised_setRaised (x y : Byte) : (s.setRaised x).setRaised y = s.setRaised y := rfl
@[simp] theorem State.setRaised_self : s.setRaised s.raised = s := rfl
@[simp] theorem State.setPending_setPending (x y : List Instr) : (s.setPending x).setPending y = s.setPending y := rfl
@[simp] theorem State.setPending_self : s.setPending s.pending = s := rfl

end Sys2Proof.Machine
end

