-- ==== Sys2Proof/Laws/Tables.lean ====
section
/-! SUPPORT. What the tables, rows and searches over them hold: one lemma for each, so that no proof unfolds them. -/

namespace Sys2Proof.Machine

open Sys2Proof

/-! ## Tables entry by entry -/

@[simp] theorem tabulate_get {α : Type} {n : Nat} (f : Fin n → α) (k : Nat) (h : k < n) : (tabulate f)[k] = f ⟨k, h⟩ := by
  simp [tabulate]

@[simp] theorem mapTable_get {α β : Type} {n : Nat} (f : α → β) (a : Vector α n) (k : Nat) (h : k < n) :
    (mapTable f a)[k] = f a[k] := by
  simp [mapTable]

@[simp] theorem zipTables_get {α β γ : Type} {n : Nat} (f : α → β → γ) (a : Vector α n) (b : Vector β n) (k : Nat) (h : k < n) :
    (zipTables f a b)[k] = f a[k] b[k] := by
  simp [zipTables]

theorem set_get_self {α : Type} {n : Nat} (a : Vector α n) (i : Fin n) (x : α) : (a.set i x)[i] = x := by simp

theorem set_get_other {α : Type} {n : Nat} (a : Vector α n) (i j : Fin n) (x : α) (h : j ≠ i) : (a.set i x)[j] = a[j] := by
  have : (i : Nat) ≠ j := fun e => h (Fin.ext e.symm)
  simp [this]

/-! ## Rows -/

/-- The rows of a table paired with all its indices. -/
theorem mem_indexed {α : Type} {n : Nat} (a : Vector α n) (i : Fin n) (x : α) :
    (i, x) ∈ (List.finRange n).zip a.toList ↔ x = a[i] := by
  rw [List.mem_iff_getElem]
  constructor
  · rintro ⟨k, hk, e⟩
    simp only [List.getElem_zip, List.getElem_finRange, Prod.mk.injEq] at e
    obtain ⟨e1, e2⟩ := e
    have : (i : Nat) = k := by rw [← e1]; simp
    simp [← e2, this]
  · rintro rfl
    exact ⟨i, by simp, by simp⟩

/-- A row of the configuration. -/
theorem mem_configRows (cfg : Configuration) (p : PointIndex) (c : PointConfig) : (p, c) ∈ configRows cfg ↔ c = cfg.points[p] :=
  mem_indexed cfg.points p c

/-- A row of the point table. -/
theorem mem_pointRows (cfg : Configuration) (records : Records) (p : PointIndex) (c : PointConfig) (r : PointRecord) :
    (p, c, r) ∈ pointRows cfg records ↔ c = cfg.points[p] ∧ r = records[p] := by
  have h := mem_indexed (zipTables Prod.mk cfg.points records) p (c, r)
  have e : (zipTables Prod.mk cfg.points records).toList = cfg.points.toList.zip records.toList := by
    simp [zipTables, List.zip]
  rw [e] at h
  simpa [pointRows, allPoints] using h

/-! ## Changes of the whole point table, point by point -/

theorem loseOthers_get (cfg : Configuration) (records : Records) (p : PointIndex) :
    (loseOthers cfg records)[p] = if isUsed cfg p && !isOwn cfg p then lose records[p] else records[p] := by
  simp [loseOthers, isUsed, isOwn]

theorem loseOwner_get (cfg : Configuration) (n : Station) (records : Records) (p : PointIndex) :
    (loseOwner cfg n records)[p] = if ownedBy cfg n p && !isOwn cfg p then lose records[p] else records[p] := by
  simp [loseOwner, ownedBy, isOwn]

theorem operateGroups_get (cfg : Configuration) (op : Operation) (groups horizon : Word) (records : Records) (p : PointIndex) :
    (operateGroups cfg op groups horizon records)[p]
      = if isUsed cfg p && maskNames groups cfg.points[p].group then operate op horizon cfg.points[p].ringback records[p]
        else records[p] := by
  simp [operateGroups, isUsed]

theorem startingRecords_get (cfg : Configuration) (p : PointIndex) :
    (startingRecords cfg)[p] = if isUsed cfg p && !isOwn cfg p then lose quietRecord else quietRecord := by
  simp [startingRecords, isUsed, isOwn]

/-! ## Searches -/

/-- A rival is a used point of the group, other than the point, that holds first_out. -/
theorem rivalOf_some {cfg : Configuration} {records : Records} {p q : PointIndex} (h : rivalOf cfg records p = some q) :
    q ≠ p ∧ isUsed cfg q = true ∧ cfg.points[q].group = cfg.points[p].group ∧ records[q].firstOut = true := by
  simp only [rivalOf, Option.map_eq_some_iff] at h
  obtain ⟨⟨q', c, r⟩, hf, rfl⟩ := h
  have hm := (mem_pointRows _ _ _ _ _).1 (List.mem_of_find?_eq_some hf)
  have hp := List.find?_some hf
  obtain ⟨rfl, rfl⟩ := hm
  simp only [rivalIn, Bool.and_eq_true, bne_iff_ne, beq_iff_eq] at hp
  exact ⟨hp.1.1.2, hp.2, hp.1.2, hp.1.1.1⟩

/-- With no rival, no other used point of the group holds first_out. -/
theorem rivalOf_none {cfg : Configuration} {records : Records} {p : PointIndex} (h : rivalOf cfg records p = none) (q : PointIndex)
    (hq : q ≠ p) (hu : isUsed cfg q = true) (hg : cfg.points[q].group = cfg.points[p].group) : records[q].firstOut = false := by
  simp only [rivalOf, Option.map_eq_none_iff, List.find?_eq_none] at h
  have := h (q, cfg.points[q], records[q]) ((mem_pointRows _ _ _ _ _).2 ⟨rfl, rfl⟩)
  simp only [rivalIn, Bool.and_eq_true, bne_iff_ne, beq_iff_eq, not_and] at this
  cases hf : records[q].firstOut with
  | false => rfl
  | true => exact absurd hu (this ⟨⟨hf, hq⟩, hg⟩)

/-- The point of a scanned line is an own point configured on it (R115). -/
theorem pointOfLine_some {cfg : Configuration} {l : InputLine} {p : PointIndex} (h : pointOfLine cfg l = some p) :
    isOwn cfg p = true ∧ cfg.points[p].inputLine = l := by
  simp only [pointOfLine, Option.map_eq_some_iff] at h
  obtain ⟨⟨q, c⟩, hf, rfl⟩ := h
  have hm := (mem_configRows _ _ _).1 (List.mem_of_find?_eq_some hf)
  have hp := List.find?_some hf
  subst hm
  simp only [Bool.and_eq_true, beq_iff_eq] at hp
  exact ⟨hp.1, hp.2⟩

/-- A count over the control set is above 0 exactly when one of its points is counted (R29). -/
theorem controlCount_pos (cfg : Configuration) (records : Records) (test : PointRecord → Bool) :
    0 < controlCount cfg records test ↔ ∃ p : PointIndex, inControlSet cfg p = true ∧ test records[p] = true := by
  simp only [controlCount, List.countP_pos_iff]
  constructor
  · rintro ⟨⟨p, c, r⟩, hm, ht⟩
    obtain ⟨rfl, rfl⟩ := (mem_pointRows _ _ _ _ _).1 hm
    simp only [Bool.and_eq_true] at ht
    exact ⟨p, ht.1, ht.2⟩
  · rintro ⟨p, hc, ht⟩
    exact ⟨(p, cfg.points[p], records[p]), (mem_pointRows _ _ _ _ _).2 ⟨rfl, rfl⟩, by
      rw [Bool.and_eq_true]; exact ⟨hc, ht⟩⟩

/-- The points of an owner within a window (R104). -/
theorem mem_pointsInWindow (cfg : Configuration) (owner : Option Station) (w : Window) (p : PointIndex) :
    p ∈ pointsInWindow cfg owner w ↔ cfg.points[p].owner.isSome = true ∧ cfg.points[p].owner = owner ∧ inWindow w p = true := by
  simp only [pointsInWindow, List.mem_map, List.mem_filter, Bool.and_eq_true, beq_iff_eq]
  constructor
  · rintro ⟨⟨q, c⟩, ⟨hm, h⟩, rfl⟩
    have := (mem_configRows _ _ _).1 hm
    subst this
    exact ⟨h.1.1, h.1.2, h.2⟩
  · rintro ⟨h1, h2, h3⟩
    exact ⟨(p, cfg.points[p]), ⟨(mem_configRows _ _ _).2 rfl, ⟨h1, h2⟩, h3⟩, rfl⟩

end Sys2Proof.Machine
end

