-- ==== Sys2Proof/Laws/Ops.lean ====
section
/-! SUPPORT. What each shared operation can do, said once: the blocks it keeps (for every operation), and what it does to the others. -/

namespace Sys2Proof.Machine

open Sys2Proof

/-! ## The blocks each operation keeps -/

@[simp] theorem raise_keeps (c : Byte) (s : State) :
    (raise c s).loader = s.loader ∧ (raise c s).hold = s.hold ∧ (raise c s).pins = s.pins ∧ (raise c s).cfg = s.cfg
      ∧ (raise c s).points = s.points ∧ (raise c s).line = s.line ∧ (raise c s).seq = s.seq ∧ (raise c s).members = s.members
      ∧ (raise c s).transfer = s.transfer ∧ (raise c s).scanner = s.scanner ∧ (raise c s).panel = s.panel
      ∧ (raise c s).timers = s.timers ∧ (raise c s).lamp = s.lamp ∧ (raise c s).responder = s.responder
      ∧ (raise c s).pending = s.pending := by
  simp [raise]

@[simp] theorem newMoment_keeps (s : State) :
    (newMoment s).loader = s.loader ∧ (newMoment s).hold = s.hold ∧ (newMoment s).pins = s.pins ∧ (newMoment s).cfg = s.cfg
      ∧ (newMoment s).points = s.points ∧ (newMoment s).line = s.line ∧ (newMoment s).seq = s.seq
      ∧ (newMoment s).members = s.members ∧ (newMoment s).transfer = s.transfer ∧ (newMoment s).scanner = s.scanner
      ∧ (newMoment s).panel = s.panel ∧ (newMoment s).timers = s.timers ∧ (newMoment s).lamp = s.lamp
      ∧ (newMoment s).responder = s.responder ∧ (newMoment s).pending = s.pending := by
  simp [newMoment]

@[simp] theorem releaseLine_keeps (s : State) :
    (releaseLine s).loader = s.loader ∧ (releaseLine s).hold = s.hold ∧ (releaseLine s).pins = s.pins ∧ (releaseLine s).cfg = s.cfg
      ∧ (releaseLine s).points = s.points ∧ (releaseLine s).seq = s.seq ∧ (releaseLine s).members = s.members
      ∧ (releaseLine s).transfer = s.transfer ∧ (releaseLine s).scanner = s.scanner ∧ (releaseLine s).panel = s.panel
      ∧ (releaseLine s).timers = s.timers ∧ (releaseLine s).lamp = s.lamp ∧ (releaseLine s).responder = s.responder
      ∧ (releaseLine s).raised = s.raised ∧ (releaseLine s).pending = s.pending := by
  simp [releaseLine]

@[simp] theorem awaitGap_keeps (s : State) :
    (awaitGap s).loader = s.loader ∧ (awaitGap s).hold = s.hold ∧ (awaitGap s).pins = s.pins ∧ (awaitGap s).cfg = s.cfg
      ∧ (awaitGap s).points = s.points ∧ (awaitGap s).seq = s.seq ∧ (awaitGap s).members = s.members
      ∧ (awaitGap s).transfer = s.transfer ∧ (awaitGap s).scanner = s.scanner ∧ (awaitGap s).panel = s.panel
      ∧ (awaitGap s).timers = s.timers ∧ (awaitGap s).lamp = s.lamp ∧ (awaitGap s).responder = s.responder
      ∧ (awaitGap s).raised = s.raised ∧ (awaitGap s).pending = s.pending := by
  simp [awaitGap]

@[simp] theorem gapSeen_keeps (s : State) :
    (gapSeen s).loader = s.loader ∧ (gapSeen s).hold = s.hold ∧ (gapSeen s).pins = s.pins ∧ (gapSeen s).cfg = s.cfg
      ∧ (gapSeen s).points = s.points ∧ (gapSeen s).seq = s.seq ∧ (gapSeen s).members = s.members
      ∧ (gapSeen s).transfer = s.transfer ∧ (gapSeen s).scanner = s.scanner ∧ (gapSeen s).panel = s.panel
      ∧ (gapSeen s).timers = s.timers ∧ (gapSeen s).lamp = s.lamp ∧ (gapSeen s).responder = s.responder
      ∧ (gapSeen s).raised = s.raised ∧ (gapSeen s).pending = s.pending := by
  simp [gapSeen]

@[simp] theorem settleTimers_keeps (s : State) :
    (settleTimers s).loader = s.loader ∧ (settleTimers s).hold = s.hold ∧ (settleTimers s).pins = s.pins
      ∧ (settleTimers s).cfg = s.cfg ∧ (settleTimers s).points = s.points ∧ (settleTimers s).line = s.line
      ∧ (settleTimers s).seq = s.seq ∧ (settleTimers s).members = s.members ∧ (settleTimers s).transfer = s.transfer
      ∧ (settleTimers s).scanner = s.scanner ∧ (settleTimers s).panel = s.panel ∧ (settleTimers s).lamp = s.lamp
      ∧ (settleTimers s).responder = s.responder ∧ (settleTimers s).raised = s.raised ∧ (settleTimers s).pending = s.pending := by
  simp [settleTimers]

@[simp] theorem settleHorn_keeps (s : State) :
    (settleHorn s).loader = s.loader ∧ (settleHorn s).hold = s.hold ∧ (settleHorn s).pins = s.pins ∧ (settleHorn s).cfg = s.cfg
      ∧ (settleHorn s).points = s.points ∧ (settleHorn s).line = s.line ∧ (settleHorn s).seq = s.seq
      ∧ (settleHorn s).members = s.members ∧ (settleHorn s).transfer = s.transfer ∧ (settleHorn s).scanner = s.scanner
      ∧ (settleHorn s).timers = s.timers ∧ (settleHorn s).lamp = s.lamp ∧ (settleHorn s).responder = s.responder
      ∧ (settleHorn s).raised = s.raised ∧ (settleHorn s).pending = s.pending := by
  simp [settleHorn]

@[simp] theorem settle_keeps (s : State) :
    (settle s).loader = s.loader ∧ (settle s).hold = s.hold ∧ (settle s).pins = s.pins ∧ (settle s).cfg = s.cfg
      ∧ (settle s).points = s.points ∧ (settle s).line = s.line ∧ (settle s).seq = s.seq ∧ (settle s).members = s.members
      ∧ (settle s).transfer = s.transfer ∧ (settle s).scanner = s.scanner ∧ (settle s).lamp = s.lamp
      ∧ (settle s).responder = s.responder ∧ (settle s).raised = s.raised ∧ (settle s).pending = s.pending := by
  simp [settle]

@[simp] theorem reconcile_keeps (s : State) :
    (reconcile s).loader = s.loader ∧ (reconcile s).hold = s.hold ∧ (reconcile s).pins = s.pins ∧ (reconcile s).cfg = s.cfg
      ∧ (reconcile s).points = s.points ∧ (reconcile s).line = s.line ∧ (reconcile s).seq = s.seq
      ∧ (reconcile s).members = s.members ∧ (reconcile s).transfer = s.transfer ∧ (reconcile s).panel = s.panel
      ∧ (reconcile s).timers = s.timers ∧ (reconcile s).lamp = s.lamp ∧ (reconcile s).responder = s.responder
      ∧ (reconcile s).raised = s.raised ∧ (reconcile s).pending = s.pending := by
  unfold reconcile; split <;> simp

@[simp] theorem restartWholeGrid_keeps (s : State) :
    (restartWholeGrid s).loader = s.loader ∧ (restartWholeGrid s).hold = s.hold ∧ (restartWholeGrid s).pins = s.pins
      ∧ (restartWholeGrid s).cfg = s.cfg ∧ (restartWholeGrid s).points = s.points ∧ (restartWholeGrid s).line = s.line
      ∧ (restartWholeGrid s).seq = s.seq ∧ (restartWholeGrid s).members = s.members ∧ (restartWholeGrid s).scanner = s.scanner
      ∧ (restartWholeGrid s).panel = s.panel ∧ (restartWholeGrid s).timers = s.timers ∧ (restartWholeGrid s).lamp = s.lamp
      ∧ (restartWholeGrid s).responder = s.responder ∧ (restartWholeGrid s).raised = s.raised
      ∧ (restartWholeGrid s).pending = s.pending := by
  simp [restartWholeGrid]

@[simp] theorem setEntry_keeps (n : Station) (e : MemberEntry) (s : State) :
    (setEntry n e s).loader = s.loader ∧ (setEntry n e s).hold = s.hold ∧ (setEntry n e s).pins = s.pins
      ∧ (setEntry n e s).cfg = s.cfg ∧ (setEntry n e s).points = s.points ∧ (setEntry n e s).line = s.line
      ∧ (setEntry n e s).seq = s.seq ∧ (setEntry n e s).transfer = s.transfer ∧ (setEntry n e s).scanner = s.scanner
      ∧ (setEntry n e s).panel = s.panel ∧ (setEntry n e s).timers = s.timers ∧ (setEntry n e s).lamp = s.lamp
      ∧ (setEntry n e s).responder = s.responder ∧ (setEntry n e s).raised = s.raised ∧ (setEntry n e s).pending = s.pending := by
  simp [setEntry]

@[simp] theorem closeContext_keeps (n : Station) (s : State) :
    (closeContext n s).loader = s.loader ∧ (closeContext n s).hold = s.hold ∧ (closeContext n s).pins = s.pins
      ∧ (closeContext n s).cfg = s.cfg ∧ (closeContext n s).points = s.points ∧ (closeContext n s).line = s.line
      ∧ (closeContext n s).seq = s.seq ∧ (closeContext n s).members = s.members ∧ (closeContext n s).scanner = s.scanner
      ∧ (closeContext n s).panel = s.panel ∧ (closeContext n s).timers = s.timers ∧ (closeContext n s).lamp = s.lamp
      ∧ (closeContext n s).responder = s.responder ∧ (closeContext n s).raised = s.raised ∧ (closeContext n s).pending = s.pending := by
  simp [closeContext]

@[simp] theorem loseStation_keeps (n : Station) (s : State) :
    (loseStation n s).loader = s.loader ∧ (loseStation n s).hold = s.hold ∧ (loseStation n s).pins = s.pins
      ∧ (loseStation n s).cfg = s.cfg ∧ (loseStation n s).line = s.line ∧ (loseStation n s).seq = s.seq
      ∧ (loseStation n s).members = s.members ∧ (loseStation n s).scanner = s.scanner ∧ (loseStation n s).panel = s.panel
      ∧ (loseStation n s).timers = s.timers ∧ (loseStation n s).lamp = s.lamp ∧ (loseStation n s).responder = s.responder
      ∧ (loseStation n s).raised = s.raised ∧ (loseStation n s).pending = s.pending := by
  simp [loseStation]

@[simp] theorem moveEntry_keeps (n : Station) (e : MemberEntry) (s : State) :
    (moveEntry n e s).loader = s.loader ∧ (moveEntry n e s).hold = s.hold ∧ (moveEntry n e s).pins = s.pins
      ∧ (moveEntry n e s).cfg = s.cfg ∧ (moveEntry n e s).line = s.line ∧ (moveEntry n e s).seq = s.seq
      ∧ (moveEntry n e s).scanner = s.scanner ∧ (moveEntry n e s).panel = s.panel ∧ (moveEntry n e s).timers = s.timers
      ∧ (moveEntry n e s).lamp = s.lamp ∧ (moveEntry n e s).responder = s.responder ∧ (moveEntry n e s).pending = s.pending := by
  unfold moveEntry; split <;> [skip; split] <;> simp

@[simp] theorem repairTest_keeps (s : State) :
    (repairTest s).loader = s.loader ∧ (repairTest s).hold = s.hold ∧ (repairTest s).pins = s.pins ∧ (repairTest s).cfg = s.cfg
      ∧ (repairTest s).points = s.points ∧ (repairTest s).line = s.line ∧ (repairTest s).seq = s.seq
      ∧ (repairTest s).transfer = s.transfer ∧ (repairTest s).scanner = s.scanner ∧ (repairTest s).panel = s.panel
      ∧ (repairTest s).timers = s.timers ∧ (repairTest s).lamp = s.lamp ∧ (repairTest s).responder = s.responder
      ∧ (repairTest s).raised = s.raised ∧ (repairTest s).pending = s.pending := by
  unfold repairTest; split <;> [skip; split] <;> simp

@[simp] theorem enterSynced_keeps (s : State) :
    (enterSynced s).loader = s.loader ∧ (enterSynced s).hold = s.hold ∧ (enterSynced s).pins = s.pins ∧ (enterSynced s).cfg = s.cfg
      ∧ (enterSynced s).points = s.points ∧ (enterSynced s).line = s.line ∧ (enterSynced s).members = s.members
      ∧ (enterSynced s).panel = s.panel ∧ (enterSynced s).timers = s.timers ∧ (enterSynced s).lamp = s.lamp
      ∧ (enterSynced s).responder = s.responder ∧ (enterSynced s).raised = s.raised ∧ (enterSynced s).pending = s.pending := by
  simp [enterSynced]

@[simp] theorem enterListening_keeps (r : JoinReason) (s : State) :
    (enterListening r s).loader = s.loader ∧ (enterListening r s).hold = s.hold ∧ (enterListening r s).pins = s.pins
      ∧ (enterListening r s).cfg = s.cfg ∧ (enterListening r s).line = s.line ∧ (enterListening r s).members = s.members
      ∧ (enterListening r s).transfer = s.transfer ∧ (enterListening r s).scanner = s.scanner ∧ (enterListening r s).panel = s.panel
      ∧ (enterListening r s).timers = s.timers ∧ (enterListening r s).lamp = s.lamp ∧ (enterListening r s).responder = s.responder
      ∧ (enterListening r s).raised = s.raised ∧ (enterListening r s).pending = s.pending := by
  simp [enterListening]

@[simp] theorem hear_keeps (f : StationField) (h : Heard) (o : DigestOutcome) (d : Option Word) (s : State) :
    (hear f h o d s).loader = s.loader ∧ (hear f h o d s).hold = s.hold ∧ (hear f h o d s).pins = s.pins
      ∧ (hear f h o d s).cfg = s.cfg ∧ (hear f h o d s).line = s.line ∧ (hear f h o d s).seq = s.seq
      ∧ (hear f h o d s).scanner = s.scanner ∧ (hear f h o d s).panel = s.panel ∧ (hear f h o d s).timers = s.timers
      ∧ (hear f h o d s).lamp = s.lamp ∧ (hear f h o d s).responder = s.responder ∧ (hear f h o d s).pending = s.pending := by
  unfold hear; split <;> [skip; split] <;> simp

@[simp] theorem countPoint_keeps (s : State) :
    (countPoint s).loader = s.loader ∧ (countPoint s).hold = s.hold ∧ (countPoint s).pins = s.pins ∧ (countPoint s).cfg = s.cfg
      ∧ (countPoint s).points = s.points ∧ (countPoint s).line = s.line ∧ (countPoint s).members = s.members
      ∧ (countPoint s).transfer = s.transfer ∧ (countPoint s).scanner = s.scanner ∧ (countPoint s).panel = s.panel
      ∧ (countPoint s).timers = s.timers ∧ (countPoint s).lamp = s.lamp ∧ (countPoint s).responder = s.responder
      ∧ (countPoint s).raised = s.raised ∧ (countPoint s).pending = s.pending := by
  simp [countPoint]

@[simp] theorem adoptCount_keeps (f : StationField) (d : Word) (c : Option Word) (s : State) :
    (adoptCount f d c s).loader = s.loader ∧ (adoptCount f d c s).hold = s.hold ∧ (adoptCount f d c s).pins = s.pins
      ∧ (adoptCount f d c s).cfg = s.cfg ∧ (adoptCount f d c s).points = s.points ∧ (adoptCount f d c s).line = s.line
      ∧ (adoptCount f d c s).members = s.members ∧ (adoptCount f d c s).transfer = s.transfer
      ∧ (adoptCount f d c s).scanner = s.scanner ∧ (adoptCount f d c s).panel = s.panel ∧ (adoptCount f d c s).timers = s.timers
      ∧ (adoptCount f d c s).lamp = s.lamp ∧ (adoptCount f d c s).responder = s.responder ∧ (adoptCount f d c s).raised = s.raised
      ∧ (adoptCount f d c s).pending = s.pending := by
  unfold adoptCount; split <;> [skip; split] <;> simp

@[simp] theorem writePoint_keeps (f : StationField) (p : PointIndex) (w : WireRecord) (d : Word) (s : State) :
    (writePoint f p w d s).loader = s.loader ∧ (writePoint f p w d s).hold = s.hold ∧ (writePoint f p w d s).pins = s.pins
      ∧ (writePoint f p w d s).cfg = s.cfg ∧ (writePoint f p w d s).line = s.line ∧ (writePoint f p w d s).seq = s.seq
      ∧ (writePoint f p w d s).members = s.members ∧ (writePoint f p w d s).transfer = s.transfer
      ∧ (writePoint f p w d s).scanner = s.scanner ∧ (writePoint f p w d s).panel = s.panel
      ∧ (writePoint f p w d s).timers = s.timers ∧ (writePoint f p w d s).lamp = s.lamp
      ∧ (writePoint f p w d s).responder = s.responder ∧ (writePoint f p w d s).pending = s.pending := by
  unfold writePoint; repeat' split
  all_goals simp

@[simp] theorem setContext_keeps (n : Station) (c : Option ReceiveContext) (s : State) :
    (setContext n c s).loader = s.loader ∧ (setContext n c s).hold = s.hold ∧ (setContext n c s).pins = s.pins
      ∧ (setContext n c s).cfg = s.cfg ∧ (setContext n c s).points = s.points ∧ (setContext n c s).line = s.line
      ∧ (setContext n c s).seq = s.seq ∧ (setContext n c s).members = s.members ∧ (setContext n c s).scanner = s.scanner
      ∧ (setContext n c s).panel = s.panel ∧ (setContext n c s).timers = s.timers ∧ (setContext n c s).lamp = s.lamp
      ∧ (setContext n c s).responder = s.responder ∧ (setContext n c s).raised = s.raised ∧ (setContext n c s).pending = s.pending := by
  simp [setContext]

@[simp] theorem dropTransfer_keeps (n : Station) (s : State) :
    (dropTransfer n s).loader = s.loader ∧ (dropTransfer n s).hold = s.hold ∧ (dropTransfer n s).pins = s.pins
      ∧ (dropTransfer n s).cfg = s.cfg ∧ (dropTransfer n s).points = s.points ∧ (dropTransfer n s).line = s.line
      ∧ (dropTransfer n s).seq = s.seq ∧ (dropTransfer n s).members = s.members ∧ (dropTransfer n s).scanner = s.scanner
      ∧ (dropTransfer n s).panel = s.panel ∧ (dropTransfer n s).timers = s.timers ∧ (dropTransfer n s).lamp = s.lamp
      ∧ (dropTransfer n s).responder = s.responder ∧ (dropTransfer n s).raised = s.raised ∧ (dropTransfer n s).pending = s.pending := by
  simp [dropTransfer]

@[simp] theorem synchronise_keeps (s : State) :
    (synchronise s).loader = s.loader ∧ (synchronise s).hold = s.hold ∧ (synchronise s).pins = s.pins ∧ (synchronise s).cfg = s.cfg
      ∧ (synchronise s).points = s.points ∧ (synchronise s).line = s.line ∧ (synchronise s).members = s.members
      ∧ (synchronise s).panel = s.panel ∧ (synchronise s).timers = s.timers ∧ (synchronise s).lamp = s.lamp
      ∧ (synchronise s).responder = s.responder ∧ (synchronise s).raised = s.raised ∧ (synchronise s).pending = s.pending := by
  unfold synchronise; split <;> simp

@[simp] theorem settleMembership_keeps (s : State) :
    (settleMembership s).loader = s.loader ∧ (settleMembership s).hold = s.hold ∧ (settleMembership s).pins = s.pins
      ∧ (settleMembership s).cfg = s.cfg ∧ (settleMembership s).points = s.points ∧ (settleMembership s).line = s.line
      ∧ (settleMembership s).lamp = s.lamp ∧ (settleMembership s).responder = s.responder ∧ (settleMembership s).raised = s.raised
      ∧ (settleMembership s).pending = s.pending := by
  simp [settleMembership]

@[simp] theorem listeningFrame_keeps (s : State) :
    (listeningFrame s).loader = s.loader ∧ (listeningFrame s).hold = s.hold ∧ (listeningFrame s).pins = s.pins
      ∧ (listeningFrame s).cfg = s.cfg ∧ (listeningFrame s).points = s.points ∧ (listeningFrame s).seq = s.seq
      ∧ (listeningFrame s).members = s.members ∧ (listeningFrame s).transfer = s.transfer ∧ (listeningFrame s).scanner = s.scanner
      ∧ (listeningFrame s).panel = s.panel ∧ (listeningFrame s).timers = s.timers ∧ (listeningFrame s).lamp = s.lamp
      ∧ (listeningFrame s).responder = s.responder ∧ (listeningFrame s).pending = s.pending := by
  simp [listeningFrame]

@[simp] theorem attemptOver_keeps (s : State) :
    (attemptOver s).loader = s.loader ∧ (attemptOver s).hold = s.hold ∧ (attemptOver s).pins = s.pins ∧ (attemptOver s).cfg = s.cfg
      ∧ (attemptOver s).points = s.points ∧ (attemptOver s).seq = s.seq ∧ (attemptOver s).members = s.members
      ∧ (attemptOver s).transfer = s.transfer ∧ (attemptOver s).scanner = s.scanner ∧ (attemptOver s).panel = s.panel
      ∧ (attemptOver s).timers = s.timers ∧ (attemptOver s).lamp = s.lamp ∧ (attemptOver s).responder = s.responder
      ∧ (attemptOver s).pending = s.pending := by
  simp [attemptOver]

/-! ## What the operations do to the rest -/

@[simp] theorem settle_timers (s : State) : (settle s).timers = (settleTimers s).timers := by simp [settle]

@[simp] theorem settle_presencePending (s : State) : (settle s).timers.presencePending = s.timers.presencePending := by
  simp [settle, settleTimers]

/-- The horn follows the records, the line state and the timers as they stand after the moment (R145, R148). -/
theorem settle_horn (s : State) : (settle s).panel.horn = hornPattern (settle s) := by
  simp [settle, settleHorn, hornPattern]

/-- The panel but for the horn is kept (R148). -/
theorem settle_panel (s : State) :
    (settle s).panel = { s.panel with horn := (settle s).panel.horn, hornPhaseMs := (settle s).panel.hornPhaseMs } := by
  simp [settle, settleHorn]

/-- The line is let go and nothing else of its controller changes. -/
@[simp] theorem releaseLine_line (s : State) : (releaseLine s).line = { s.line with attempt := none, drive := .recessive } := rfl

@[simp] theorem listeningFrame_line (s : State) : (listeningFrame s).line = { s.line with attempt := none, drive := .recessive } := rfl

@[simp] theorem listeningFrame_raised (s : State) : (listeningFrame s).raised = 0 := rfl

@[simp] theorem attemptOver_line (s : State) : (attemptOver s).line = { s.line with attempt := none, drive := .recessive } := rfl

/-- The repair test moves the flag alone (R84). -/
theorem repairTest_members (s : State) :
    ∃ flag, (repairTest s).members = { s.members with repairFlag := flag } := by
  unfold repairTest
  split
  · exact ⟨false, rfl⟩
  · split
    · exact ⟨true, rfl⟩
    · exact ⟨s.members.repairFlag, rfl⟩

@[simp] theorem repairTest_entries (s : State) : (repairTest s).members.entries = s.members.entries := by
  obtain ⟨_, h⟩ := repairTest_members s
  simp [h]

/-- A moved entry is the one written, and every other entry is kept. -/
@[simp] theorem moveEntry_entries (n : Station) (e : MemberEntry) (s : State) :
    (moveEntry n e s).members = { s.members with entries := s.members.entries.set n e } := by
  unfold moveEntry
  split <;> [skip; split] <;> simp [setEntry]

/-- What a move does to the points: a change to ABSENT or MISMATCH marks the station's points LOST (R79). -/
theorem moveEntry_points (n : Station) (e : MemberEntry) (s : State) :
    (moveEntry n e s).points
      = if e.state ≠ s.members.entries[n].state ∧ (e.state = .absent ∨ e.state = .mismatch) then loseOwner s.cfg n s.points
        else s.points := by
  unfold moveEntry
  by_cases h : e.state = s.members.entries[n].state
  · rw [if_pos h, if_neg (fun x => x.1 h)]; simp
  · rw [if_neg h]
    by_cases g : e.state = .absent ∨ e.state = .mismatch
    · rw [if_pos g, if_pos ⟨h, g⟩]; simp [loseStation]
    · rw [if_neg g, if_neg (fun x => g x.2)]; simp

/-- What hearing a frame does to its sender's entry (R71, R72). -/
theorem hear_entry {f : StationField} {n : Station} (hf : stationOfField f = some n) (h : Heard) (o : DigestOutcome) (d : Option Word)
    (s : State) (hn : s.cfg.self ≠ some n) :
    hear f h o d s
      = moveEntry n { state := nextMember h o s.members.entries[n].state, ageMs := 0, lastDigest := d.or s.members.entries[n].lastDigest } s := by
  unfold hear
  simp only [hf, if_neg hn]

/-- A frame signed 0 or 31 reaches no entry (R70). -/
theorem hear_unnumbered {f : StationField} (hf : stationOfField f = none) (h : Heard) (o : DigestOutcome) (d : Option Word) (s : State) :
    hear f h o d s = s := by
  unfold hear
  simp only [hf]

/-- A station's field names it. -/
@[simp] theorem stationOfField_fieldOf (n : Station) : stationOfField (fieldOf n) = some n := by
  revert n
  decide

/-- A field that names a station is that station's. -/
theorem fieldOf_of_stationOfField {f : StationField} {n : Station} (h : stationOfField f = some n) : f = fieldOf n := by
  revert f n
  decide

/-- Another station's frame is not signed with the station's own number. -/
theorem ownField_ne {s : State} {n : Station} (h : s.cfg.self ≠ some n) : ownField s ≠ some (fieldOf n) := by
  intro e
  simp only [ownField, Option.map_eq_some_iff] at e
  obtain ⟨m, hm, hf⟩ := e
  have := congrArg stationOfField hf
  simp only [stationOfField_fieldOf, Option.some.injEq] at this
  exact h (this ▸ hm)

/-! ## Sampling (R118, R132) -/

/-- A sample in STEADY (R118, R132). -/
theorem takeSample_steady {α : Type} [DecidableEq α] (time : Nat) (level : α) {d : Debouncer α} (h : d.settling = none) :
    takeSample time level d = steadySample time level d := by
  rw [takeSample, h]

/-- A sample away from the stable level leaves the settling timer running (R118, R132). -/
theorem takeSample_away {α : Type} [DecidableEq α] (time : Nat) {level : α} {d : Debouncer α} {ms : Nat} (h : d.settling = some ms)
    (hl : level ≠ d.stable) : takeSample time level d = { d with raw := level } := by
  simp only [takeSample, h, if_neg hl]

/-- A sample back at the stable level before the settling timer has run out ends the settling (R118, R132). -/
theorem takeSample_back {α : Type} [DecidableEq α] (time : Nat) {d : Debouncer α} {ms : Nat} (h : d.settling = some (ms + 1)) :
    takeSample time d.stable d = { d with raw := d.stable, settling := none } := by
  simp [takeSample, h]

/-- A sample back at the stable level at the instant of the expiry starts a new settling from the level settled (R118, R132). -/
theorem takeSample_atExpiry {α : Type} [DecidableEq α] {time : Nat} {d : Debouncer α} (h : d.settling = some 0) (hr : d.stable ≠ d.raw)
    (ht : time ≠ 0) : takeSample time d.stable d = { raw := d.stable, stable := d.raw, settling := some time } := by
  simp [takeSample, h, steadySample, settleLevel, hr, ht]

/-! ## What the line brings a station (R35, R88) -/

/-- What the line brings a station: at one that hears it, the effect with the gap seen; else nothing (R35, R88). -/
theorem whenHeard_cases (gap : Nat) (effect : State → State) (s : State) :
    (hears gap s = true ∧ whenHeard gap effect s = effect (gapSeen s)) ∨ (hears gap s = false ∧ whenHeard gap effect s = s) := by
  unfold whenHeard
  cases hears gap s with
  | true => exact .inl ⟨rfl, rfl⟩
  | false => exact .inr ⟨rfl, rfl⟩

/-- A station that hears takes the effect. -/
theorem whenHeard_of_hears {gap : Nat} {s : State} (h : hears gap s = true) (effect : State → State) :
    whenHeard gap effect s = effect (gapSeen s) := by
  rw [whenHeard, if_pos h]

/-- A station hears a frame when its state receives, and it awaits no idle gap or has seen one ahead of the frame (R35, R88). -/
theorem hears_iff (gap : Nat) (s : State) :
    hears gap s = true ↔ receives s.seq.state = true ∧ (s.line.awaitsGap = false ∨ 11 ≤ gap) := by
  simp only [hears, Bool.and_eq_true, Bool.or_eq_true, Bool.not_eq_true', decide_eq_true_eq]
  exact Iff.rfl

/-- A frame of another station at a station that hears it: its content is taken, and the moment of the membership table is settled (R40). -/
theorem frameEnds_received {heading : FrameHeading} {s : State} (hr : hears heading.gap s = true)
    (ho : ownField s ≠ some heading.sender) (taken : State → State) :
    frameEnds heading taken s = settleMembership (taken (listeningFrame (gapSeen s))) := by
  rw [frameEnds, whenHeard_of_hears hr]
  exact if_neg ho

/-- The frame a row's payload spells is the content it was built from. -/
theorem takePayload_of_read {cls : FrameClass} {payload : List Byte} {content : FrameContent}
    (h : readPayload cls payload = some content) (f : StationField) (s : State) :
    takePayload cls f payload s = takeContent f content s := by
  unfold takePayload
  simp only [h]

/-- While the station is not SYNCING, no frame ends its synchronisation (R96). -/
theorem synchronise_of_ne {s : State} (h : s.seq.state ≠ .syncing) : synchronise s = s := by
  unfold synchronise
  rw [if_neg (fun x => h x.1)]

/-! ## Reconciliation (R121) -/

/-- An append reports the line at its stable level and lengthens the queue by one. -/
@[simp] theorem appendReport_queue (scanner : InputScanner) (l : InputLine) :
    (appendReport scanner l).queue = scanner.queue ++ [{ line := l, event := reportOf scanner.lines[l].debouncer.stable }] := rfl

/-- Reconciliation never takes the queue past its capacity. -/
theorem reconcileRounds_length (cfg : Configuration) (rounds : Nat) (scanner : InputScanner)
    (h : scanner.queue.length ≤ reportCapacity) : (reconcileRounds cfg rounds scanner).queue.length ≤ reportCapacity := by
  induction rounds generalizing scanner with
  | zero => exact h
  | succ n ih =>
    simp only [reconcileRounds]
    split
    · rename_i hlt
      split
      · exact h
      · exact ih _ (by simp only [appendReport_queue, List.length_append, List.length_cons, List.length_nil]; omega)
    · exact h

/-- When reconciliation ends with room in the queue, no line is unreported. -/
theorem reconcileRounds_complete (cfg : Configuration) (rounds : Nat) (scanner : InputScanner)
    (h : reportCapacity ≤ rounds + scanner.queue.length)
    (room : (reconcileRounds cfg rounds scanner).queue.length < reportCapacity) :
    unreportedCount cfg (reconcileRounds cfg rounds scanner) = 0 := by
  induction rounds generalizing scanner with
  | zero => simp only [reconcileRounds] at room; omega
  | succ n ih =>
    by_cases hlt : scanner.queue.length < reportCapacity
    · simp only [reconcileRounds, if_pos hlt] at room ⊢
      cases hf : allLines.find? (isUnreported cfg scanner) with
      | none =>
        simp only [unreportedCount, List.countP_eq_zero]
        exact List.find?_eq_none.1 hf
      | some l =>
        simp only [hf] at room
        exact ih _ (by simp only [appendReport_queue, List.length_append, List.length_cons, List.length_nil]; omega) room
    · simp only [reconcileRounds, if_neg hlt] at room
      exact absurd room hlt

end Sys2Proof.Machine
end

