-- ==== Sys2Proof/WellFormed.lean ====
section
/-! DEFINITION. Which commands are well formed: the operands a row of the table can have. `exec` is total and does not ask. -/

namespace Sys2Proof

/-- A frame that ends successfully has a length field of 0 to 16 (R34, R39). -/
def payloadFits (payload : List Byte) : Bool := payload.length ≤ 16

/-- The kind byte of a QUERY payload is the row's own, or is missing, or names no kind (R61). -/
def queryKindIs (kind : Nat) (payload : List Byte) : Bool :=
  match payload with
  | [] => true
  | k :: _ => k.toNat == kind || k.toNat == 0 || 5 ≤ k.toNat

/-- The part number of a SNAPSHOT payload does not make it a DATA part (R59). -/
def notDataPart (payload : List Byte) : Bool :=
  match payload with
  | [] => true
  | p :: _ => p.toNat == 0 || 12 ≤ p.toNat

/-- The part number of a SNAPSHOT payload does not make it a START (R59). -/
def notStartPart (payload : List Byte) : Bool :=
  match payload with
  | [] => true
  | p :: _ => p.toNat != 0

/-- The well-formed commands. -/
def wellFormed : Instr → Bool
  | .hardwareReset (.supply _) => true
  | .hardwareReset (.pin lowMicros) => 10 ≤ lowMicros
  | .resetRelease (.supply millivolts stoodMs) _ _ => 2800 ≤ millivolts && 10 ≤ stoodMs
  | .resetRelease .pin _ _ => true
  | .imageReadComplete mdi => mdi.length == 9800
  | .loadChecksComplete => true
  | .attemptStart => true
  | .lostArbitration => true
  | .echoMismatch => true
  | .attemptVoided => true
  | .ownFrameSuccessfulEnd => true
  | .faultyFrameReceived _ => true
  | .voidSeen => true
  | .pointFrame _ payload => payloadFits payload
  | .operatorFrame _ payload => payloadFits payload
  | .joinFrame _ payload => payloadFits payload
  | .snapshotStart _ payload => payloadFits payload && notDataPart payload
  | .snapshotData _ payload => payloadFits payload && notStartPart payload
  | .presenceFrame _ payload => payloadFits payload
  | .queryStatus _ payload => payloadFits payload && queryKindIs 1 payload
  | .queryMembers _ payload => payloadFits payload && queryKindIs 2 payload
  | .queryRegion _ payload => payloadFits payload && queryKindIs 3 payload
  | .queryRestart _ payload => payloadFits payload && queryKindIs 4 payload
  | .replyFrame _ payload => payloadFits payload
  | .unassignedFrame _ payload => payloadFits payload
  | .listenTimerExpiry => true
  | .syncTimerExpiry => true
  | .holdOffExpiry => true
  | .absentTimeout _ => true
  | .repairTimerExpiry => true
  | .t0PresenceExpiry => true
  | .activityTimerExpiry _ => true
  | .lampTestTimeout => true
  | .fieldInputChange _ _ => true
  | .inputSettlingExpiry _ => true
  | .buttonInputChange _ _ => true
  | .buttonSettlingExpiry _ => true
  | .inputSettlingAbandoned _ => true
  | .buttonSettlingAbandoned _ => true

end Sys2Proof
end

