-- ==== Sys2Proof/Tests/Slice0.lean ====
section
/-! SUPPORT. Tests of the model: what WellFormed refuses, the byte layouts and frames of the manual's examples, one or two steps for each
command with the manual's expected values, and for every obligation with hypotheses a concrete state that meets them. Station 9 is the
station of most examples; its configuration here is that of section 12.3 with point 37 of the image example. -/

namespace Sys2Proof.Tests

open Sys2Proof Sys2Proof.Machine

set_option Elab.async false

/-! ## Helpers -/

/-- What holds of the next state of a step; false on a fault or a refusal. -/
def holdsAfter (o : Host.Outcome State Fault Refusal) (f : State → Bool) : Bool :=
  match o with
  | .next t => f t
  | .fault _ => false
  | .refused _ => false

/-- A point that is abnormal when its contact is closed, with a debounce time of 40 ms. -/
def testPoint (owner : Station) (group : Group) (line : InputLine) (lockIn ringback : Bool) : PointConfig :=
  { owner := some owner, group := group, inputLine := line, abnormalWhenClosed := true, lockIn := lockIn, ringback := ringback,
    debounceMs := 40 }

/-- Station 9 with points 20 and 37, station 3 with points 38 and 66, station 6 with points 100 to 102 (sections 3.6, 12.3, 12.4). -/
def testCfg : Configuration :=
  { blankConfiguration with
    self := some 8, rate := 1, presenceMs := 500, controlSet := 0x000F
    t1ReloadMs := 600000, t1Mask := 0x05, t2ReloadMs := 300000, t2Mask := 0x10, t3ReloadMs := 60000, t3Mask := 0x01
    display := some { originRow := 2, originColumn := 0, rows := 8, columns := 8 }
    points :=
      tabulate fun p =>
        if p = 20 then testPoint 8 2 2 false true
        else if p = 37 then testPoint 8 2 5 true false
        else if p = 38 then testPoint 2 2 7 false false
        else if p = 66 then testPoint 2 4 8 false false
        else if p = 100 then testPoint 5 6 0 false false
        else if p = 101 then testPoint 5 6 1 false false
        else if p = 102 then testPoint 5 6 2 false false
        else unusedPoint }

/-- Station 9, SYNCED at order count 120 with nothing on the line. -/
def base : State :=
  { State.reset with
    cfg := testCfg
    hold := { bySupply := false, byPin := false, powered := true }
    loader := { state := .accepted, straps := { stn := 9, rate := 1 }, image := [], checkResult := 0xABCD, digest := some 0xABCD }
    points := startingRecords testCfg
    seq := { State.reset.seq with state := .synced, orderCount := 120, countValid := true } }

/-- The state in another line state. -/
def inState (st : LineState) (s : State) : State := s.setSeq { s.seq with state := st }

/-- The state with a report queue. -/
def withReports (q : List ReportEntry) (s : State) : State := s.setScanner { s.scanner with queue := q }

/-- The state with an operator queue. -/
def withOperators (q : List OperatorEntry) (s : State) : State := s.setPanel { s.panel with queue := q }

/-- The state with an attempt of a source on the line. -/
def sending (src : Source) (content : FrameContent) (s : State) : State :=
  s.setLine { s.line with attempt := some { source := src, content := content }, drive := .frame }

/-- The state with failure counts. -/
def withCounts (failures mismatches : Nat) (s : State) : State :=
  s.setLine { s.line with failures := failures, mismatches := mismatches }

/-- The state with a record. -/
def withRecord (p : PointIndex) (r : PointRecord) (s : State) : State := s.setPoints (s.points.set p r)

/-- The state with a membership entry of state `m` and last digest ABCDh. -/
def withMember (n : Station) (m : MemberState) (s : State) : State :=
  setEntry n { state := m, ageMs := 7, lastDigest := some 0xABCD } s

/-- The state with a membership entry not heard for the absent timeout of 2 s. -/
def withSilent (n : Station) (m : MemberState) (s : State) : State :=
  setEntry n { state := m, ageMs := 2000, lastDigest := some 0xABCD } s

/-- The state with a receive context. -/
def withContext (n : Station) (x : ReceiveContext) (s : State) : State := setContext n (some x) s

/-- The state with a snapshot job. -/
def withJob (job : SnapshotJob) (s : State) : State := s.setTransfer { s.transfer with job := job }

/-- The state with line `l` SETTLING from normal to abnormal, `ms` left. -/
def settlingLine (ms : Nat) (l : InputLine) (s : State) : State :=
  setLineDebouncer l { raw := .abnormal, stable := .normal, settling := some ms } s

/-- A record without flags. -/
def plain (st : PointState) (mark : Word) (cc : Byte) : PointRecord :=
  { state := st, firstOut := false, silenced := false, changeCount := cc, alertMark := mark }

/-- A record with first_out set. -/
def flagged (st : PointState) (mark : Word) (cc : Byte) : PointRecord := { plain st mark cc with firstOut := true }

/-- The wire record of an ALERT with mark 121 and change_count 1. -/
def alertWire : WireRecord := wireOfRecord (plain .alert 121 1)

/-- Station 6's context over the whole grid, at its first point, three records left (section 12.4). -/
def openContext : ReceiveContext :=
  { window := wholeGrid, fullWindow := true, cursor := some 100, expectedPart := 1, remaining := 3 }

/-- A table of bytes patched at a few places. -/
def patch (img : List Byte) (changes : List (Nat × Byte)) : List Byte := changes.foldl (fun l c => l.set c.1 c.2) img

/-- The image of the example of section 3.6, without a computed body check: P 500 ms, T1 600 s, T2 300 s, the masks 05h and 10h, point 37 of
station 9, station 4's entry, and every other station entry in range. -/
def exampleImage : List Byte :=
  patch (List.replicate 1040 0 ++ (List.replicate 30 [0, 0, 0, 0, 1, 1]).flatten ++ [0, 0])
    [(0, 0x47), (1, 0x38), (2, 1), (3, 10), (4, 0x02), (5, 0x58), (6, 0x01), (7, 0x2C), (10, 0x05), (11, 0x10),
      (164, 9), (165, 0x12), (166, 0x85), (167, 4), (1059, 0x0F), (1060, 2), (1062, 8), (1063, 8)]

/-- The image with points 37 and 52 of station 9 both on input line 5 (section 11.7). -/
def doubledImage : List Byte := patch exampleImage [(224, 9), (225, 0x02), (226, 0x05), (227, 4)]

/-- Number straps with nothing on their pins. -/
def openStn : Vector PinLevel 5 := Vector.replicate 5 .undriven

/-- Rate straps with nothing on their pins. -/
def openRate : Vector PinLevel 2 := Vector.replicate 2 .undriven

/-- The straps of station 9 at 125 kbit/s. -/
def straps9 : Straps := { stn := 9, rate := 1 }

/-- A loader that has read an image whose check it holds to be `result`. -/
def checking (img : List Byte) (result : Word) (straps : Straps) : State :=
  { State.reset with
    hold := { bySupply := false, byPin := false, powered := true }
    loader := { state := .checking, straps := straps, image := img, checkResult := result, digest := none } }

/-! ## WellFormed refuses -/

theorem test_ill_short_reset_pulse : wellFormed (.hardwareReset (.pin 9)) = false := rfl
theorem test_ill_release_voltage : wellFormed (.resetRelease (.supply 2799 10) openStn openRate) = false := rfl
theorem test_ill_release_time : wellFormed (.resetRelease (.supply 2800 9) openStn openRate) = false := rfl
theorem test_ill_image_length : wellFormed (.imageReadComplete [true]) = false := rfl
theorem test_ill_payload_of_17 : wellFormed (.pointFrame ⟨11, 3⟩ (List.replicate 17 0)) = false := rfl
theorem test_ill_start_with_data_part : wellFormed (.snapshotStart ⟨11, 3⟩ [1, 0, 0, 0, 0, 0]) = false := rfl
theorem test_ill_data_with_start_part : wellFormed (.snapshotData ⟨11, 3⟩ [0, 0, 0, 0, 0, 0]) = false := rfl
theorem test_ill_status_of_kind_2 : wellFormed (.queryStatus ⟨11, 3⟩ [2, 9]) = false := rfl
theorem test_ill_members_of_kind_1 : wellFormed (.queryMembers ⟨11, 3⟩ [1, 9]) = false := rfl
theorem test_ill_region_of_kind_4 : wellFormed (.queryRegion ⟨11, 3⟩ [4, 9]) = false := rfl
theorem test_ill_restart_of_kind_3 : wellFormed (.queryRestart ⟨11, 3⟩ [3, 9]) = false := rfl
theorem test_well_point_frame : wellFormed (.pointFrame ⟨11, 3⟩ [38, 0x30, 1, 0, 121, 0xAB, 0xCD]) = true := rfl

/-- The table gives no row any bits (assumption 2). -/
theorem test_no_word_spells_a_command : decodeTableWord 16 0x1234 = none ∧ State.reset.withFetchWord 16 0x1234 = State.reset := ⟨rfl, rfl⟩

/-! ## Layouts and checks, from the manual's examples -/

/-- Section 3.2: the bytes 31h to 39h give 29B1h. -/
theorem test_check_of_nine_bytes : checkOfBytes [0x31, 0x32, 0x33, 0x34, 0x35, 0x36, 0x37, 0x38, 0x39] = 0x29B1 := by decide +kernel

/-- Section 3.3: ALERT, first_out, change_count 7, mark 42; and the same silenced. -/
theorem test_record_bytes :
    recordBytes (wireOfRecord (flagged .alert 42 7)) = [0x30, 0x07, 0x00, 0x2A]
      ∧ recordBytes (wireOfRecord (silence (flagged .alert 42 7))) = [0x38, 0x08, 0x00, 0x2A] := by decide

/-- Section 3.4: station 12's START for rows 4 to 5, total 5, count 901 and digest ABCDh. -/
theorem test_start_bytes :
    buildPayload (.start { rowLow := 4, rowHigh := 5, columnLow := 0, columnHigh := 15 } 5 (some 901) 0xABCD)
      = [0x00, 0x02, 4, 5, 0, 15, 5, 0x03, 0x85, 0xAB, 0xCD] := by decide

/-- Section 2.4: the arbitration fields of a POINT of station 3 and an OPERATOR of stations 9 and 4. -/
theorem test_arbitration_fields :
    arbitrationField .point 3 = 0x03 ∧ arbitrationField .operator 9 = 0x29 ∧ arbitrationField .operator 4 = 0x24 := by decide

/-- R33: after four equal bits an opposite one is inserted, which begins the next run; a fifth equal bit is a coding break. -/
theorem test_insertion :
    insertBits [false, false, false, false, true, true, true, false] = [false, false, false, false, true, true, true, true, false, false]
      ∧ removeBits [false, false, false, false, false] = none := by decide

/-- Section 3.6: the entry of point 37 and the entry of station 4. -/
theorem test_image_entries :
    pointConfigOf [9, 0x12, 0x85, 4] = testPoint 8 2 5 true false
      ∧ controlSetOf [0, 0x0F, 2, 0, 8, 8] = 0x000F
      ∧ displayOf [0, 0x0F, 2, 0, 8, 8] = { originRow := 2, originColumn := 0, rows := 8, columns := 8 } := by decide +kernel

/-- Section 10.8: the data of station 9's MEMBERS reply, half 0. -/
theorem test_members_reply :
    membersBody (withMember 2 .present (withMember 3 .present (withMember 5 .stale (withMember 11 .mismatch base)))) false
      = [0x00, 0x00, 0x33, 0x02, 0x00, 0xF0, 0x04, 0x00, 0x00] := by decide +kernel

/-- Section 10.8: the data of station 9's second STATUS reply. -/
theorem test_status_reply :
    statusBody
        { base with
          seq := { base.seq with orderCount := 901 }
          scanner := { base.scanner with queue := [{ line := 2, event := .trip }, { line := 2, event := .clear }] }
          panel := { base.panel with queue := [{ operation := .reset, groups := 0x000F, horizon := 0 }] }
          line := { base.line with failures := 1, withdrawals := 1, voidsDriven := 3 }
          transfer := { base.transfer with transferDrops := 2 } }
      = [0x84, 0x11, 1, 1, 3, 0, 0, 2, 0, 0x03, 0x85, 0xAB, 0xCD, 0] := by decide +kernel

/-- Section 1.3: horizon 41 covers mark 30 and not mark 42. -/
theorem test_horizon : withinHorizon 41 30 = true ∧ withinHorizon 41 42 = false := by decide

/-- Section 1.6: mark 812 is later than 790, so point 70 loses its flag to the returning point 66. -/
theorem test_tie_after_return :
    losesTie 66 (flagged .alert 790 5) 70 (flagged .alert 812 1) = false
      ∧ losesTie 70 (flagged .alert 812 1) 66 (flagged .alert 790 5) = true := by decide +kernel

/-! ## One step for each command -/

/-- R188: RESETn low for 9 µs does nothing; for 10 µs it resets, and the pin holds the reset. -/
theorem test_reset_pulse :
    holdsAfter (exec (.hardwareReset (.pin 9)) base) (fun t => t.seq.state == .synced) = true
      ∧ holdsAfter (exec (.hardwareReset (.pin 10)) base) (fun t => t.seq.state == .off && t.loader.state == .held && t.hold.byPin) = true := by
  decide +kernel

/-- R187, R188: a supply at 2.7 V does nothing to a running station; below it the station is OFF and drives no pin, FLT included. -/
theorem test_reset_by_supply :
    exec (.hardwareReset (.supply 2700)) base = .next base
      ∧ holdsAfter (exec (.hardwareReset (.supply 2699)) base)
          (fun t => t.seq.state == .off && t.loader.state == .held && fltPin t == .undriven) = true
      ∧ fltPin State.reset = .low := ⟨rfl, by decide +kernel⟩

/-- R188, R190: the supply's hold ends after 10 ms at 2.8 V; STN4, STN3 and STN1 tied to ground, STN2 to the supply and STN0 open give station 5. -/
theorem test_release_samples_straps :
    holdsAfter (exec (.resetRelease (.supply 2800 10) #v[.undriven, .low, .high, .low, .low] #v[.undriven, .low]) State.reset)
        (fun t => t.loader.state == .reading && t.loader.straps == { stn := 5, rate := 1 }) = true
      ∧ exec (.resetRelease (.supply 2800 9) openStn openRate) State.reset = .next State.reset
      ∧ exec (.resetRelease (.supply 2799 10) openStn openRate) State.reset = .next State.reset := ⟨by decide +kernel, rfl, rfl⟩

/-- Section 12.1: with no straps fitted the loader samples number 31 and rate setting 1,1 (R202). -/
theorem test_open_straps :
    holdsAfter (exec (.resetRelease (.supply 3300 10) openStn openRate) State.reset)
        (fun t => t.loader.straps == { stn := 31, rate := 3 }) = true
      ∧ State.reset.pins.stn = openStn ∧ State.reset.pins.rate = openRate := ⟨by decide +kernel, rfl, rfl⟩

/-- Section 12.1: a memory that answers nothing gives FFh throughout. -/
theorem test_unfitted_memory :
    holdsAfter (exec (.imageReadComplete []) { State.reset with loader := { State.reset.loader with state := .reading } })
      (fun t => t.loader.state == .checking && t.loader.image == List.replicate 1222 0xFF) = true := by decide +kernel

/-- R191: MDI's readings behind the 24 clock periods of command and address give the bytes, most significant bit first: 47h, 38h. -/
theorem test_mdi_readings :
    (clockedIn
        (List.replicate 24 false
          ++ [false, true, false, false, false, true, true, true, false, false, true, true, true, false, false, false])).take 3
      = [0x47, 0x38, 0xFF] := by decide +kernel

/-- Section 12.1: the unfitted station halts, FLT asserted and every lamp in the LOST pattern at FULL. -/
theorem test_unfitted_station_halts :
    holdsAfter (exec .loadChecksComplete (checking (List.replicate 1222 0xFF) 0 { stn := 31, rate := 3 }))
      (fun t => t.seq.state == .halted && t.loader.state == .refused && fltAsserted t && litMicros t 7 7 == 1000) = true := by decide +kernel

/-- Sections 3.6, 11.5: a good image starts station 9 in LISTENING with point 37 its own. -/
theorem test_good_image_accepted :
    holdsAfter (exec .loadChecksComplete (checking exampleImage 0 straps9))
      (fun t => t.seq.state == .listening && t.seq.listenTimer == some 1000 && t.loader.digest == some 0 && isOwn t.cfg 37
        && t.cfg.t1ReloadMs == 600000) = true := by decide +kernel

/-- Section 12.3: station 9's TRIP of point 20 carries ALERT, first_out, mark 121, change_count 1. -/
theorem test_first_trip :
    holdsAfter (exec .attemptStart (withReports [{ line := 2, event := .trip }] base))
      (fun t => t.line.attempt == some { source := .reportQueue, content := .point 20 (wireOfRecord (flagged .alert 121 1)) 0xABCD }) = true := by
  decide +kernel

/-- R49: a LISTENING station sends nothing, whatever waits. -/
theorem test_listening_sends_nothing :
    holdsAfter (exec .attemptStart (inState .listening (withReports [{ line := 2, event := .trip }] base)))
      (fun t => t.line.attempt == none) = true := by decide +kernel

/-- R37: lost arbitration keeps both counts and the entry. -/
theorem test_lost_arbitration :
    holdsAfter
        (exec .lostArbitration
          (withCounts 5 1 (sending .reportQueue (.point 20 alertWire 0xABCD) (withReports [{ line := 2, event := .trip }] base))))
      (fun t => t.line.failures == 5 && t.line.mismatches == 1 && t.scanner.queue.length == 1 && t.line.attempt == none) = true := by
  decide +kernel

/-- R38, R39: a PRESENCE of station 9 whose first length bit is seen wrong is fault-marked for 8 bit times, and R37: one whose first 1 is seen
dominant in the arbitration field is lost. Bits 0 to 8 are the start bit and 100 01001 of the field. -/
theorem test_sender_compares :
    (let s := sending .timerT0 (.presence 0xABCD none .synced) base
     let lrx := [false, true, false, false, false, true, false, false, true, true]
     (List.range 20).map (fun k => ltxPin s lrx k == .high)
       = [false, true, false, false, false, true, false, false, true, false] ++ List.replicate 8 false ++ [true, true])
      ∧ attemptEnd 0x89 [] [false, false] = .lostArbitration 1 ∧ attemptEnd 0x89 [] [true] = .echoMismatch 0 := by decide +kernel

/-- R34, R39: the bits of a JOIN read on LRX give its row; a dominant void slot a void seen, and length 17 a length fault. -/
theorem test_read_line :
    readLine false (List.replicate 12 true ++ frameBits .join 6 [0xAB, 0xCD, 1]) = some (.joinFrame ⟨12, 6⟩ [0xAB, 0xCD, 1])
      ∧ readFrame 11 (insertBits (spanBits (arbitrationField .join 6) [1, 2, 3]) ++ [true, false, true]) = some .voidSeen
      ∧ readFrame 11 (insertBits (false :: (byteBits 0x46 ++ lengthBits 17))) = some (.faultyFrameReceived ⟨11, .lengthFault⟩)
      ∧ readFrame 11 [false, false, false, false, false] = some (.faultyFrameReceived ⟨11, .codingBreak⟩) := by decide +kernel

/-- R35: a station that begins to receive within a frame passes it over, and reads the next, behind 11 recessive bit times. -/
theorem test_read_line_within_a_frame :
    readLine true ((frameBits .join 6 [0xAB, 0xCD, 1]).drop 20 ++ List.replicate 11 true ++ frameBits .join 6 [1, 2, 3])
        = some (.joinFrame ⟨21, 6⟩ [1, 2, 3])
      ∧ readLine true ([true, true] ++ frameBits .join 6 [0xAB, 0xCD, 1]) = none := by decide +kernel

/-- R42, R46: an echo mismatch steps both counts, and the third in a row halts. -/
theorem test_echo_mismatches :
    holdsAfter (exec .echoMismatch (withCounts 0 1 (sending .timerT0 (.presence 0xABCD none .synced) base)))
        (fun t => t.line.failures == 1 && t.line.mismatches == 2 && t.seq.state == .synced) = true
      ∧ holdsAfter (exec .echoMismatch (withCounts 15 2 (sending .timerT0 (.presence 0xABCD none .synced) base)))
        (fun t => t.line.failures == 16 && t.line.mismatches == 3 && t.seq.state == .halted) = true := by decide +kernel

/-- R42 to R45: a void clears the mismatch count, and the sixteenth failure withdraws for 2 s. -/
theorem test_voided_attempts :
    holdsAfter (exec .attemptVoided (withCounts 0 2 (sending .timerT0 (.presence 0xABCD none .synced) base)))
        (fun t => t.line.failures == 1 && t.line.mismatches == 0 && t.seq.state == .synced) = true
      ∧ holdsAfter (exec .attemptVoided (withCounts 15 2 (sending .timerT0 (.presence 0xABCD none .synced) base)))
        (fun t => t.seq.state == .withdrawn && t.line.holdOff == some 2000 && t.line.withdrawals == 1 && t.line.failures == 0) = true := by
  decide +kernel

/-- Section 12.3: at the end of its TRIP station 9 steps to 121, writes the record, and raises ALERT_ANY, ALERT_SET and TRANSMIT. -/
theorem test_own_trip_ends :
    holdsAfter
      (exec .ownFrameSuccessfulEnd
        (sending .reportQueue (.point 20 (wireOfRecord (flagged .alert 121 1)) 0xABCD) (withReports [{ line := 2, event := .trip }] base)))
      (fun t => t.seq.orderCount == 121 && t.points[(20 : PointIndex)] == flagged .alert 121 1 && t.scanner.queue == []
        && t.raised == 0x8C && t.panel.horn == .continuous && almAsserted t) = true := by decide +kernel

/-- Section 11.7: the own JOIN with no entry STALE leads straight to SYNCED, the count founded at 0. -/
theorem test_own_join_founds_the_count :
    holdsAfter
      (exec .ownFrameSuccessfulEnd
        (sending .sequencer (.join 0xABCD .hardwareReset)
          ((inState .joining base).setSeq { State.reset.seq with state := .joining, joinPending := true })))
      (fun t => t.seq.state == .synced && t.seq.orderCount == 0 && t.seq.countValid && t.transfer.job == .startPending wholeGrid) = true := by
  decide +kernel

/-- R39: a check fault is voided and a coding break fault-marked, each counted. -/
theorem test_faulty_frames :
    holdsAfter (exec (.faultyFrameReceived ⟨11, .checkFault⟩) base) (fun t => t.line.drive == .void && t.line.voidsDriven == 1) = true
      ∧ holdsAfter (exec (.faultyFrameReceived ⟨11, .codingBreak⟩) base) (fun t => t.line.drive == .faultMark && t.line.voidsDriven == 1) = true := by
  decide +kernel

/-- R35: a frame that was on the line as the station began to receive is neither received nor voided, and the first behind an idle gap is. -/
theorem test_frame_before_an_idle_gap :
    exec (.faultyFrameReceived ⟨0, .checkFault⟩) (awaitGap base) = .next (awaitGap base)
      ∧ exec (.pointFrame ⟨10, 3⟩ [38, 0x20, 1, 0, 122, 0xAB, 0xCD]) (awaitGap base) = .next (awaitGap base)
      ∧ holdsAfter (exec (.pointFrame ⟨11, 3⟩ [38, 0x20, 1, 0, 122, 0xAB, 0xCD]) (awaitGap base))
          (fun t => t.seq.orderCount == 121 && !t.line.awaitsGap) = true := ⟨rfl, rfl, by decide +kernel⟩

/-- Section 5.8, with station 9 the listener: it enters LISTENING from its hold-off and counts the first DATA part it hears as a drop. -/
theorem test_listener_in_mid_transfer :
    holdsAfter (exec .holdOffExpiry ((inState .withdrawn base).setLine { base.line with holdOff := some 0 }))
      (fun t => t.line.awaitsGap && t.seq.state == .listening
        && holdsAfter (exec (.snapshotData ⟨11, 6⟩ [2, 0, 0, 0, 0, 0, 0, 0, 0, 0, 0, 0, 0, 0]) t)
            (fun u => u.transfer.transferDrops == 1 && u.members.entries[(5 : Station)].state == .absent)) = true := by decide +kernel

/-- R40: a void seen counts nowhere. -/
theorem test_void_seen :
    holdsAfter (exec .voidSeen base) (fun t => t.line.voidsDriven == 0 && t.seq == base.seq) = true := by
  decide +kernel

/-- Section 12.3: station 3's TRIP of point 38, mark 122, written over LOST; the horn sounds and the sender becomes STALE. -/
theorem test_point_frame :
    holdsAfter (exec (.pointFrame ⟨11, 3⟩ [38, 0x20, 1, 0, 122, 0xAB, 0xCD]) base)
      (fun t => t.points[(38 : PointIndex)] == plain .alert 122 1 && t.seq.orderCount == 121 && t.panel.horn == .continuous
        && t.members.entries[(2 : Station)].state == .stale && t.members.repairFlag) = true := by decide +kernel

/-- R18: a record that names LOST is not written, and the frame still counts. -/
theorem test_point_frame_naming_lost :
    holdsAfter (exec (.pointFrame ⟨11, 3⟩ [38, 0xA0, 1, 0, 122, 0xAB, 0xCD]) base)
      (fun t => t.points[(38 : PointIndex)].state == .lost && t.seq.orderCount == 121) = true := by decide +kernel

/-- Section 12.3: the ACK with horizon 121 takes point 20 to HELD and leaves point 38 in ALERT. -/
theorem test_operator_frame :
    holdsAfter
      (exec (.operatorFrame ⟨11, 4⟩ [1, 0x00, 0x0F, 0, 121, 0xAB, 0xCD])
        (withRecord 20 (flagged .alert 121 1) (withRecord 38 (plain .alert 122 1) base)))
      (fun t => t.points[(20 : PointIndex)] == flagged .held 121 2 && t.points[(38 : PointIndex)] == plain .alert 122 1
        && t.panel.horn == .continuous) = true := by decide +kernel

/-- R73, R95: a matching JOIN makes its sender JOINING, and a SYNCED station answers with the whole grid. -/
theorem test_join_frame :
    holdsAfter (exec (.joinFrame ⟨11, 6⟩ [0xAB, 0xCD, 1]) base)
      (fun t => t.members.entries[(5 : Station)].state == .joining && t.transfer.job == .startPending wholeGrid) = true := by decide +kernel

/-- Section 12.4: station 6's announcement START opens its context and leaves its entry JOINING. -/
theorem test_snapshot_start :
    holdsAfter (exec (.snapshotStart ⟨11, 6⟩ [0, 2, 0, 15, 0, 15, 3, 0, 120, 0xAB, 0xCD]) (withMember 5 .joining base))
      (fun t => t.transfer.contexts[(5 : Station)] == some openContext && t.members.entries[(5 : Station)].state == .joining) = true := by
  decide +kernel

/-- Section 12.4: station 6's one DATA part, last, writes its three points and makes it PRESENT. -/
theorem test_snapshot_data :
    holdsAfter
      (exec (.snapshotData ⟨11, 6⟩ [1, 1, 0x00, 0, 0, 0, 0x60, 2, 2, 138, 0x00, 0, 0, 0])
        (withContext 5 openContext (withMember 5 .joining base)))
      (fun t => t.points[(100 : PointIndex)] == quietRecord && t.points[(101 : PointIndex)] == plain .held 650 2
        && t.members.entries[(5 : Station)].state == .present && t.transfer.contexts[(5 : Station)] == none) = true := by decide +kernel

/-- Section 5.7's example: a part with no open context is refused, counted, and moves no entry without a last digest. -/
theorem test_snapshot_data_without_context :
    holdsAfter (exec (.snapshotData ⟨11, 6⟩ [2, 0, 0x00, 0, 0, 0]) base)
      (fun t => t.transfer.transferDrops == 1 && t.members.entries[(5 : Station)].state == .absent
        && t.points[(100 : PointIndex)].state == .lost) = true := by
  decide +kernel

/-- Section 12.4: a listener adopts the count of the first matching PRESENCE, and its sender becomes STALE. -/
theorem test_presence_frame :
    holdsAfter
      (exec (.presenceFrame ⟨11, 3⟩ [0xAB, 0xCD, 0x02, 0xDD, 0x84]) (base.setSeq { State.reset.seq with state := .listening, listenTimer := some 5 }))
      (fun t => t.seq.orderCount == 733 && t.seq.countValid && t.members.entries[(2 : Station)].state == .stale) = true := by decide +kernel

/-- R79: a PRESENCE of another digest makes a PRESENT sender MISMATCH and its points LOST. -/
theorem test_presence_mismatch :
    holdsAfter
      (exec (.presenceFrame ⟨11, 3⟩ [0x11, 0x11, 0, 120, 0x84]) (withMember 2 .present (withRecord 38 (flagged .alert 100 7) base)))
      (fun t => t.members.entries[(2 : Station)].state == .mismatch && t.points[(38 : PointIndex)] == plain .lost 0 7 && fltAsserted t) = true := by
  decide +kernel

/-- Section 10.8: a STATUS query of tool 31 fills the slot. -/
theorem test_query_status :
    holdsAfter (exec (.queryStatus ⟨11, 31⟩ [1, 9]) base)
      (fun t => t.responder == some { kind := .status, requester := 31, secondHalf := false } && t.members == base.members) = true := by
  decide +kernel

/-- Section 10.8: a MEMBERS query replaces the STATUS request that waits. -/
theorem test_query_members :
    holdsAfter (exec (.queryMembers ⟨11, 31⟩ [2, 9, 0]) (base.setResponder (some { kind := .status, requester := 31, secondHalf := false })))
      (fun t => t.responder == some { kind := .members, requester := 31, secondHalf := false }) = true := by decide +kernel

/-- R106: a REGION query to a busy job waits in the slot, without a drop. -/
theorem test_query_region :
    holdsAfter (exec (.queryRegion ⟨11, 31⟩ [3, 9, 4, 5, 0, 15]) (withJob (.startPending wholeGrid) base))
      (fun t => t.transfer.pendingRegion == some { rowLow := 4, rowHigh := 5, columnLow := 0, columnHigh := 15 }
        && t.transfer.job == .startPending wholeGrid && t.transfer.regionDrops == 0) = true := by decide +kernel

/-- Section 6.7: a soft restart discards 5 CLEAR and sets line 5's reported level back to the implied level of HELD. -/
theorem test_query_restart :
    holdsAfter (exec (.queryRestart ⟨11, 31⟩ [4, 9]) (withReports [{ line := 5, event := .clear }] (withRecord 37 (plain .held 200 2) base)))
      (fun t => t.seq.state == .listening && t.seq.joinReason == .softRestart && t.scanner.queue == []
        && t.scanner.lines[(5 : InputLine)].reported == .abnormal && t.points[(37 : PointIndex)] == plain .held 200 2) = true := by decide +kernel

/-- R77, R186: a REPLY resets its sender's age and moves no state. -/
theorem test_reply_frame :
    holdsAfter (exec (.replyFrame ⟨11, 3⟩ (1 :: 31 :: List.replicate 14 0)) (withMember 2 .stale base))
      (fun t => t.members.entries[(2 : Station)] == { state := .stale, ageMs := 0, lastDigest := some 0xABCD }) = true := by decide +kernel

/-- R36, R47: a class 7 frame with the own number is discarded; a REPLY with it halts the station. -/
theorem test_unassigned_frame :
    holdsAfter (exec (.unassignedFrame ⟨11, 9⟩ [1, 2]) base) (fun t => t.seq.state == .synced) = true
      ∧ holdsAfter (exec (.replyFrame ⟨11, 9⟩ []) base) (fun t => t.seq.state == .halted) = true := by decide +kernel

/-- R92, R155: JOINING with the flag set and T0 counting from P. -/
theorem test_listen_timer_expiry :
    holdsAfter (exec .listenTimerExpiry (base.setSeq { State.reset.seq with state := .listening, listenTimer := some 0 }))
      (fun t => t.seq.state == .joining && t.seq.joinPending && t.timers.t0 == .counting 500) = true := by decide +kernel

/-- R96: SYNCED even with an entry STALE, and the repair query flag set (R84). -/
theorem test_sync_timer_expiry :
    holdsAfter (exec .syncTimerExpiry (withMember 2 .stale (base.setSeq { base.seq with state := .syncing, syncTimer := some 0 })))
      (fun t => t.seq.state == .synced && t.members.repairFlag && t.transfer.job == .startPending wholeGrid) = true := by decide +kernel

/-- R45, R91: LISTENING with reason AFTER_WITHDRAWAL. -/
theorem test_hold_off_expiry :
    holdsAfter (exec .holdOffExpiry ((inState .withdrawn base).setLine { base.line with holdOff := some 0 }))
      (fun t => t.seq.state == .listening && t.seq.joinReason == .afterWithdrawal && t.line.holdOff == none) = true := by decide +kernel

/-- Section 12.5: the absent timeout marks the station's points LOST with their change_count kept. -/
theorem test_absent_timeout :
    holdsAfter (exec (.absentTimeout 2) (withSilent 2 .present (withRecord 66 (flagged .held 790 6) base)))
      (fun t => t.points[(66 : PointIndex)] == plain .lost 0 6 && t.members.entries[(2 : Station)].state == .absent
        && t.members.entries[(2 : Station)].lastDigest == some 0xABCD && t.raised == 0x40) = true := by decide +kernel

/-- R78: a frame that came first has reset the age, and the timeout does not happen. -/
theorem test_absent_timeout_after_a_frame :
    holdsAfter (exec (.replyFrame ⟨11, 3⟩ []) (withSilent 2 .present base))
      (fun t => holdsAfter (exec (.absentTimeout 2) t) (fun u => u.members.entries[(2 : Station)].state == .present)) = true := by decide +kernel

/-- R86: the test is made again, and an entry still STALE sets the flag. -/
theorem test_repair_timer_expiry :
    holdsAfter (exec .repairTimerExpiry ((withMember 2 .stale base).setMembers { (withMember 2 .stale base).members with repairTimer := some 0 }))
      (fun t => t.members.repairFlag && t.members.repairTimer == none) = true := by decide +kernel

/-- R155: PRESENCE pending, and T0 from P again. -/
theorem test_t0_expiry :
    holdsAfter (exec .t0PresenceExpiry (base.setTimers { base.timers with t0 := .counting 0 }))
      (fun t => t.timers.presencePending && t.timers.t0 == .counting 500) = true := by decide +kernel

/-- R156: where the own PRESENCE ends first, the expiry of the same moment does not happen, and the flag is clear. -/
theorem test_t0_expiry_after_own_presence :
    holdsAfter
      (exec .ownFrameSuccessfulEnd
        (sending .timerT0 (.presence 0xABCD none .synced) (base.setTimers { base.timers with t0 := .counting 0, presencePending := true })))
      (fun t => holdsAfter (exec .t0PresenceExpiry t) (fun u => !u.timers.presencePending && u.timers.t0 == .counting 500)) = true := by
  decide +kernel

/-- R154: a press that T1's mask names, taken first, reloads the count, and the expiry does not happen. -/
theorem test_timer_expiry_after_activity :
    holdsAfter
      (exec (.buttonSettlingExpiry .ack)
        ((base.setTimers { base.timers with t1 := .counting 0 }).setPanel
          { base.panel with ack := { raw := .pressed, stable := .released, settling := some 0 } }))
      (fun t => holdsAfter (exec (.activityTimerExpiry .t1) t) (fun u => u.timers.t1 == .counting 600000)) = true := by decide +kernel

/-- R157, R159: T1 dims the matrix and T2 asserts ESC. -/
theorem test_activity_timer_expiries :
    holdsAfter (exec (.activityTimerExpiry .t1) (base.setTimers { base.timers with t1 := .counting 0 })) (fun t => brightness t == .dim) = true
      ∧ holdsAfter (exec (.activityTimerExpiry .t2) (base.setTimers { base.timers with t2 := .counting 0 })) escAsserted = true := by decide +kernel

/-- Section 9.7: at the limit of the test the position of a QUIET point goes dark. -/
theorem test_lamp_test_timeout :
    litMicros (base.setLamp { base.lamp with test := .active 1 }) 0 5 = 1000
      ∧ holdsAfter (exec .lampTestTimeout (base.setLamp { base.lamp with test := .active 0 }))
          (fun t => t.lamp.test == .timedOut && litMicros t 0 5 == 0) = true := by decide +kernel

/-- R175: a test that ends within a slot leaves the slot to the pattern that stood at its start, here the dark of a QUIET point. -/
theorem test_lamp_test_ends_in_a_slot :
    columnLit (beginSlot (base.setLamp { base.lamp with test := .active 1 })) 500 5 = true
      ∧ holdsAfter (exec .lampTestTimeout (beginSlot (base.setLamp { base.lamp with test := .active 0 })))
          (fun t => !columnLit t 500 5) = true := by decide +kernel

/-- R118, last row: a sample back at the old level at the instant of the expiry finds the line settled, and starts a new settling. -/
theorem test_sample_at_the_expiry :
    holdsAfter (exec (.fieldInputChange 5 .undriven) (settlingLine 0 5 base))
      (fun t => t.scanner.lines[(5 : InputLine)].debouncer == { raw := .normal, stable := .abnormal, settling := some 40 }
        && t.raised == classInput) = true := by decide +kernel

/-- Section 6.7: the contact of line 5 closes, and the line is SETTLING for 40 ms with a normal stable level. -/
theorem test_field_input_change :
    holdsAfter (exec (.fieldInputChange 5 .low) base)
      (fun t => t.scanner.lines[(5 : InputLine)].debouncer == { raw := .abnormal, stable := .normal, settling := some 40 }) = true := by
  decide +kernel

/-- R201, R202: a pin driven high, or by nothing, reads its contact open: a SETTLING line is STEADY again, and a pressed button settles to released.
-/
theorem test_pin_let_high :
    (∀ pin ∈ [PinLevel.high, .undriven],
      holdsAfter (exec (.fieldInputChange 5 pin) (settlingLine 3 5 base))
          (fun t => t.scanner.lines[(5 : InputLine)].debouncer == restingLine.debouncer && t.pins.field[(5 : InputLine)] == pin) = true
        ∧ holdsAfter
            (exec (.buttonInputChange .ack pin) (setButtonDebouncer .ack { raw := .pressed, stable := .pressed, settling := none } base))
            (fun t => t.panel.ack == { raw := .released, stable := .pressed, settling := some 20 } && t.pins.ack == pin) = true) := by
  decide +kernel

/-- Section 6.7: the bounce brings the line back to STEADY and normal. -/
theorem test_input_settling_abandoned :
    holdsAfter (exec (.inputSettlingAbandoned 5) (settlingLine 3 5 base))
      (fun t => t.scanner.lines[(5 : InputLine)].debouncer == { raw := .normal, stable := .normal, settling := none }
        && t.pins.field[(5 : InputLine)] == .undriven) = true := by decide +kernel

/-- Section 6.7: line 5 settles abnormal; reconciliation queues 5 TRIP and INPUT is raised. -/
theorem test_input_settling_expiry :
    holdsAfter (exec (.inputSettlingExpiry 5) (settlingLine 0 5 base))
      (fun t => t.scanner.queue == [{ line := 5, event := .trip }] && t.scanner.lines[(5 : InputLine)].reported == .abnormal
        && t.raised == classInput) = true := by decide +kernel

/-- R132: a closed ACK contact starts the 20 ms settling. -/
theorem test_button_input_change :
    holdsAfter (exec (.buttonInputChange .ack .low) base)
      (fun t => t.panel.ack == { raw := .pressed, stable := .released, settling := some 20 } && t.panel.queue == []) = true := by decide +kernel

/-- R132: a button back at its stable level is STEADY again. -/
theorem test_button_settling_abandoned :
    holdsAfter
      (exec (.buttonSettlingAbandoned .reset)
        (base.setPanel { base.panel with reset := { raw := .pressed, stable := .released, settling := some 4 } }))
      (fun t => t.panel.reset == restingButton && t.raised == 0) = true := by decide +kernel

/-- Section 12.3: the ACK press captures the control set and horizon 120; R136: in LISTENING it is dropped and counted. -/
theorem test_button_settling_expiry :
    holdsAfter
        (exec (.buttonSettlingExpiry .ack) (base.setPanel { base.panel with ack := { raw := .pressed, stable := .released, settling := some 0 } }))
        (fun t => t.panel.queue == [{ operation := .ack, groups := 0x000F, horizon := 120 }] && t.raised == classButton) = true
      ∧ holdsAfter
        (exec (.buttonSettlingExpiry .ack)
          ((inState .listening base).setPanel { base.panel with ack := { raw := .pressed, stable := .released, settling := some 0 } }))
        (fun t => t.panel.queue == [] && t.panel.pressDrops == 1) = true := by decide +kernel

/-- R144, R167: RINGBACK alone sounds the horn for the first 0.5 s of 4 s; FAST is on for the first 250 ms of 500 ms. -/
theorem test_horn_and_flash :
    hornSounds (base.setPanel { base.panel with horn := .intermittent, hornPhaseMs := 499 }) = true
      ∧ hornSounds (base.setPanel { base.panel with horn := .intermittent, hornPhaseMs := 500 }) = false
      ∧ patternOn .fast 249 = true ∧ patternOn .fast 250 = false ∧ patternOn .double 374 = true ∧ patternOn .double 375 = false := by
  decide +kernel

/-- The tick: an expiry falls due when 1 ms is left, and is queued (assumption 6). -/
theorem test_tick_queues_the_expiry :
    holdsAfter (step (base.setTimers { base.timers with t0 := .counting 1 })) (fun t => t.pending == [.t0PresenceExpiry]) = true := by
  decide +kernel

/-! ## Witnesses: for each obligation with hypotheses, a state and operands that meet them together

A witness named after an obligation shows its hypotheses, clause by clause, met by the states of this file. -/

/-- A TRIP or a CLEAR of line 2 at the head of station 9's report queue, with a record at point 20. -/
def reporting (e : ReportEvent) (r : PointRecord) : State := withRecord 20 r (withReports [{ line := 2, event := e }] base)

/-- The five states an own point can be in. -/
def ownRecords : List PointRecord :=
  [quietRecord, flagged .alert 100 1, plain .returned 100 2, plain .held 100 2, flagged .ringback 100 3]

theorem witness_StepRunsTheFrontCommand : (base.setPending [.attemptStart]).pending = .attemptStart :: [] := rfl

theorem witness_IdleStepPassesOneMillisecond :
    (base.setTimers { base.timers with t0 := .counting 1, t2 := .counting 300000 }).pending = []
      ∧ (base.setTimers { base.timers with t0 := .counting 1, t2 := .counting 300000 }).timers.t0 = .counting 1
      ∧ base.timers.t0 = .idle ∧ (base.setLamp { base.lamp with test := .active 1 }).lamp.test = .active 1
      ∧ base.lamp.test = .idle := ⟨rfl, rfl, rfl, rfl, rfl⟩

theorem witness_LoadReadsStrapsAndImage :
    (∀ i : Fin 5, (9 : BitVec 5).getLsbD i.val = ((#v[.high, .low, .low, .undriven, .low] : Vector PinLevel 5)[i] != .low))
      ∧ (∀ i : Fin 2, (1 : BitVec 2).getLsbD i.val = ((#v[.undriven, .low] : Vector PinLevel 2)[i] != .low))
      ∧ (∀ i : Fin 5, (31 : BitVec 5).getLsbD i.val = (openStn[i] != .low)) ∧ (∀ i : Fin 2, (3 : BitVec 2).getLsbD i.val = (openRate[i] != .low))
      ∧ State.reset.loader.state = .held ∧ State.reset.hold.bySupply = true ∧ State.reset.hold.byPin = false
      ∧ (State.reset.setHold { bySupply := false, byPin := true, powered := true }).loader.state = .held
      ∧ (State.reset.setHold { bySupply := true, byPin := true, powered := false }).loader.state = .held
      ∧ ({ State.reset with loader := { State.reset.loader with state := .reading } } : State).loader.state = .reading
      ∧ (List.replicate 9800 true).length = 9800 ∧ (State.reset.setHold { bySupply := true, byPin := true, powered := true }).hold.byPin = true := by
  decide +kernel

theorem witness_TenChecksPassAsTheirTableStates :
    exampleImage.length = 1222 ∧ firstFailedCheck 0 exampleImage straps9 = none
      ∧ doubledImage.length = 1222 ∧ firstFailedCheck 0 doubledImage straps9 = some 6
      ∧ firstFailedCheck 0 (patch exampleImage [(3, 1)]) straps9 = some 4 ∧ firstFailedCheck 0 (patch exampleImage [(3, 40)]) straps9 = none
      ∧ firstFailedCheck 0 (patch exampleImage [(16, 31)]) straps9 = some 5 ∧ firstFailedCheck 0 (patch exampleImage [(167, 26)]) straps9 = some 7
      ∧ firstFailedCheck 0 (patch exampleImage [(1060, 16)]) straps9 = some 8
      ∧ firstFailedCheck 0 (patch exampleImage [(4, 0x0E), (5, 0x10)]) straps9 = none
      ∧ firstFailedCheck 0 (patch exampleImage [(4, 0x0E), (5, 0x11)]) straps9 = some 9
      ∧ firstFailedCheck 0 exampleImage { stn := 31, rate := 1 } = some 10 := by decide +kernel

theorem witness_ConfigurationReadsTheImageBytes :
    exampleImage.length = 1222 ∧ straps9.stn = fieldOf 8 ∧ imageByte exampleImage (16 + 4 * 36) = 0
      ∧ (imageByte exampleImage (16 + 4 * 37)).toNat = numberOf 8 := by decide +kernel

theorem witness_GoodImageStartsTheStation :
    (checking exampleImage 0 straps9).loader.state = .checking ∧ (checking exampleImage 0 straps9).seq.state = .off
      ∧ (checking exampleImage 0 straps9).loader.straps = straps9 ∧ firstFailedCheck 0 exampleImage straps9 = none
      ∧ pointOfLine (configurationOf exampleImage straps9) 5 = some 37 ∧ pointOfLine (configurationOf exampleImage straps9) 6 = none
      ∧ (checking exampleImage 0 straps9).timers.t1 = .idle := by decide +kernel

theorem witness_BadImageHaltsTheStation :
    (checking doubledImage 0 straps9).loader.state = .checking ∧ (checking doubledImage 0 straps9).seq.state = .off
      ∧ (checking doubledImage 0 straps9).loader.straps = straps9 ∧ firstFailedCheck 0 doubledImage straps9 = some 6 := by decide +kernel

theorem witness_TripIsBuiltFromTheOwnersRecord :
    ∀ r ∈ ownRecords,
      (reporting .trip r).seq.state = .synced ∧ (reporting .trip r).line.attempt = none
        ∧ (reporting .trip r).scanner.queue = { line := 2, event := .trip } :: [] ∧ pointOfLine (reporting .trip r).cfg 2 = some 20
        ∧ (reporting .trip r).loader.digest = some 0xABCD ∧ (reporting .trip r).points[(20 : PointIndex)] = r := by decide +kernel

theorem witness_ClearIsBuiltFromTheOwnersRecord :
    ∀ r ∈ ownRecords,
      (reporting .clear r).seq.state = .synced ∧ (reporting .clear r).line.attempt = none
        ∧ (reporting .clear r).scanner.queue = { line := 2, event := .clear } :: [] ∧ pointOfLine (reporting .clear r).cfg 2 = some 20
        ∧ (reporting .clear r).loader.digest = some 0xABCD ∧ (reporting .clear r).points[(20 : PointIndex)] = r := by decide +kernel

theorem witness_SequenceKeepsRecordsLawful :
    RecordLawful quietRecord ∧ RecordLawful (flagged .ringback 100 3) ∧ RecordLawful (flagged .alert 42 7)
      ∧ (flagged .alert 42 7).state ≠ .lost := ⟨⟨rfl, rfl, rfl⟩, rfl, trivial, by decide⟩

/-- The records of the station at its start (R26). -/
theorem base_record (p : PointIndex) :
    base.points[p] = if isUsed testCfg p && !isOwn testCfg p then lose quietRecord else quietRecord := startingRecords_get testCfg p

/-- Point 37 alone holds first_out. -/
def oneFlag : Records := base.points.set (37 : PointIndex) (flagged .alert 100 1)

theorem witness_OneFirstOutByTheTieRule :
    OneFlagPerGroup testCfg oneFlag ∧ isUsed testCfg 20 = true ∧ isUsed testCfg 38 = true ∧ isUsed testCfg 37 = true
      ∧ testCfg.points[(37 : PointIndex)].group = testCfg.points[(20 : PointIndex)].group ∧ oneFlag[(37 : PointIndex)].firstOut = true
      ∧ laterThan 101 100 = true ∧ laterThan 100 99 = true := by
  have h : ∀ p : PointIndex, oneFlag[p].firstOut = true → p = 37 := by
    intro p hp
    by_contra hne
    rw [show oneFlag[p] = base.points[p] from set_get_other _ _ _ _ hne, base_record] at hp
    split at hp <;> cases hp
  refine ⟨fun p q _ _ _ hp hq => (h p hp).trans (h q hq).symm, ?_⟩
  decide +kernel

theorem witness_FirstOutInv_step : FirstOutInv (base.setPoints oneFlag) ∧ ∃ t, step (base.setPoints oneFlag) = .next t :=
  ⟨witness_OneFirstOutByTheTieRule.1, _, rfl⟩

/-- Station 9 with station 3 PRESENT and its point 38 known. -/
def peer9 : State := withMember 2 .present (withRecord 38 (plain .alert 119 1) base)

/-- Station 3 with station 9 PRESENT, and the same records. -/
def peer3 : State := withMember 8 .present { peer9 with cfg := { testCfg with self := some 2 } }

theorem witness_StationsAgreeAfterTheSameFrame :
    (testCfg.points = { testCfg with self := some 2 }.points ∧ isUsed testCfg 20 = true
      ∧ ∀ q : PointIndex, isUsed testCfg q = true → testCfg.points[q].group = testCfg.points[(20 : PointIndex)].group →
          oneFlag[q] = oneFlag[q])
      ∧ Peers peer9 peer3 ∧ StationsAgree peer9 peer3 ∧ hears 11 peer9 = true ∧ hears 11 peer3 = true
      ∧ ownField peer9 ≠ some 6 ∧ ownField peer3 ≠ some 6
      ∧ (sending .reportQueue (.point 20 alertWire 0xABCD) peer9).cfg.self = some 8 ∧ peer9.loader.digest = some 0xABCD
      ∧ (recordOfWire alertWire).isSome = true ∧ isOwn peer9.cfg 20 = true
      ∧ GroupKnown 2 peer9 ∧ GroupKnown 2 peer3 ∧ peer9.points[(20 : PointIndex)].state ≠ .lost
      ∧ holdsAfter (exec (.pointFrame ⟨11, 9⟩ (buildPayload (.point 20 alertWire 0xABCD))) peer3)
          (fun v => v.points[(20 : PointIndex)] == plain .alert 121 1 && v.seq.orderCount == 121) = true :=
  ⟨⟨rfl, by decide +kernel, fun _ _ _ => rfl⟩,
    ⟨rfl, rfl, rfl, rfl, rfl, 8, 2, by decide, rfl, rfl, by decide +kernel, by decide +kernel⟩,
    fun _ => ⟨fun _ _ => rfl, fun _ _ _ _ => ⟨rfl, fun _ _ => rfl⟩⟩, rfl, rfl, by decide +kernel, by decide +kernel, rfl, rfl, by decide +kernel,
    by decide +kernel, by unfold GroupKnown; decide +kernel, by unfold GroupKnown; decide +kernel, by decide +kernel, by decide +kernel⟩

theorem witness_SelectorBuildsTheLowestReadyClass :
    (withOperators [{ operation := .ack, groups := 0x000F, horizon := 120 }] (withReports [{ line := 2, event := .trip }] base)).line.attempt = none
      ∧ sourceReady (withReports [{ line := 2, event := .trip }] base) .reportQueue = true
      ∧ sourceAllowed .synced .reportQueue = true ∧ sourceAllowed .synced .operatorQueue = true
      ∧ (buildFrame (withReports [{ line := 2, event := .trip }] base) .reportQueue).isSome = true
      ∧ (∀ src : Source, sourceReady base src = false)
      ∧ (sending .timerT0 (.presence 0xABCD none .synced) base).line.attempt.isSome = true
      ∧ base.loader.digest = some 0xABCD ∧ isStale (withMember 2 .stale base) 2 = true
      ∧ (∀ m : Station, m < 2 → isStale (withMember 2 .stale base) m = false)
      ∧ (withJob (.dataPending wholeGrid (some 20) 1 2) base).transfer.job = .dataPending wholeGrid (some 20) 1 2 := by
  refine ⟨by decide +kernel, by decide +kernel, by decide, by decide, by decide +kernel, fun src => by cases src <;> rfl, ?_⟩
  decide +kernel

theorem witness_FailedAttemptsAreCounted :
    transmits (withCounts 14 1 (sending .timerT0 (.presence 0xABCD none .synced) base)).seq.state = true
      ∧ (withCounts 14 1 (sending .timerT0 (.presence 0xABCD none .synced) base)).line.attempt
          = some { source := .timerT0, content := .presence 0xABCD none .synced }
      ∧ (withCounts 14 1 (sending .timerT0 (.presence 0xABCD none .synced) base)).line.failures < 15
      ∧ (withCounts 14 1 (sending .timerT0 (.presence 0xABCD none .synced) base)).line.mismatches < 2
      ∧ base.hold.powered = true ∧ (sending .timerT0 (.presence 0xABCD none .synced) base).line.drive = .frame
      ∧ endOfAttempt (sending .timerT0 (.presence 0xABCD none .synced) base) { source := .timerT0, content := .presence 0xABCD none .synced }
          [false, true, false, false, false, true, false, false, true, true] = .echoMismatch 9 := by decide +kernel

/-- Station 9 with its timers as R153 leaves them while SYNCED with no alert: T0 and T1 counting. -/
def timed : State := base.setTimers { base.timers with t0 := .counting 500, t1 := .counting 600000 }

theorem witness_SixteenthFailureWithdraws :
    transmits (withCounts 15 1 (sending .timerT0 (.presence 0xABCD none .synced) base)).seq.state = true
      ∧ (withCounts 15 1 (sending .timerT0 (.presence 0xABCD none .synced) base)).line.attempt
          = some { source := .timerT0, content := .presence 0xABCD none .synced }
      ∧ (withCounts 15 1 (sending .timerT0 (.presence 0xABCD none .synced) base)).line.failures = 15
      ∧ (withCounts 15 1 (sending .timerT0 (.presence 0xABCD none .synced) base)).line.mismatches < 2
      ∧ TimersInv (withCounts 15 1 (sending .timerT0 (.presence 0xABCD none .synced) timed)) := by
  unfold TimersInv armedAs
  decide +kernel

/-- R161: at the withdrawal T2 and T3, held by an alert of station 3's point 38 alone, go IDLE as it is LOST; T1 runs on. -/
theorem test_withdrawal_and_timers :
    holdsAfter
        (exec .attemptVoided
          (withCounts 15 0 (sending .timerT0 (.presence 0xABCD none .synced)
            (withRecord 38 (plain .alert 119 1)
              (base.setTimers { base.timers with t1 := .counting 7, t2 := .expired, t3 := .counting 9 })))))
      (fun t => t.seq.state == .withdrawn && t.timers.t1 == .counting 7 && t.timers.t2 == .idle && t.timers.t3 == .idle) = true := by
  decide +kernel

theorem witness_ThirdEchoMismatchHalts :
    transmits (withCounts 15 2 (sending .timerT0 (.presence 0xABCD none .synced) base)).seq.state = true
      ∧ (withCounts 15 2 (sending .timerT0 (.presence 0xABCD none .synced) base)).line.attempt
          = some { source := .timerT0, content := .presence 0xABCD none .synced }
      ∧ (withCounts 15 2 (sending .timerT0 (.presence 0xABCD none .synced) base)).line.mismatches = 2 := by decide +kernel

theorem witness_OwnNumberHeardHalts :
    hears 11 base = true ∧ base.cfg.self = some 8 ∧ isDeliveredFrame (.pointFrame ⟨11, 9⟩ []) = true
      ∧ isDeliveredFrame (.replyFrame ⟨11, 9⟩ []) = true ∧ frameSender (.pointFrame ⟨11, 9⟩ []) = some (fieldOf 8)
      ∧ frameGap (.pointFrame ⟨11, 9⟩ []) = some 11 := by decide +kernel

theorem witness_OwnPointFrameWritesAndLeavesTheQueue :
    (sending .reportQueue (.point 20 alertWire 0xABCD) base).seq.state = .synced
      ∧ (sending .reportQueue (.point 20 alertWire 0xABCD) base).line.attempt
          = some { source := .reportQueue, content := .point 20 alertWire 0xABCD }
      ∧ base.cfg.self = some 8 ∧ base.loader.digest = some 0xABCD ∧ base.cfg.points[(20 : PointIndex)].owner = some 8
      ∧ recordOfWire alertWire = some (plain .alert 121 1) := by decide +kernel

theorem witness_OwnFramesRemoveTheirEntries :
    ∀ content ∈ [FrameContent.operator .ack 0x000F 120 0xABCD, .presence 0xABCD (some 120) .synced, .query (.region 3 wholeGrid),
        .reply .status 31 (List.replicate 14 0)],
      transmits (sending .timerT0 content base).seq.state = true ∧ (sending .timerT0 content base).loader.digest = some 0xABCD
        ∧ (sending .timerT0 content base).line.attempt = some { source := .timerT0, content := content } := by decide +kernel

/-- Station 9 in JOINING with its JOIN on the line. -/
def joining (seq : Sequencer) : State := sending .sequencer (.join 0xABCD .hardwareReset) (base.setSeq { seq with state := .joining })

theorem witness_OwnJoinEntersSyncingOrSynced :
    (joining base.seq).seq.state = .joining
      ∧ (joining base.seq).line.attempt = some { source := .sequencer, content := .join 0xABCD .hardwareReset }
      ∧ anyStale (withMember 2 .stale (joining base.seq)) = true ∧ anyStale (joining base.seq) = false
      ∧ (joining State.reset.seq).seq.countValid = false ∧ (joining State.reset.seq).seq.pointHeard = false
      ∧ (∀ n : Station, isPresent (joining State.reset.seq) n = false)
      ∧ isPresent (withMember 2 .present (joining State.reset.seq)) 2 = true := by decide +kernel

/-- Station 9 with a part of its job on the line. -/
def transferring (job : SnapshotJob) : State := sending .transferUnit (.start wholeGrid 2 (some 120) 0xABCD) (withJob job base)

/-- A window without own points of station 9. -/
def emptyWindow : Window := { rowLow := 15, rowHigh := 15, columnLow := 0, columnHigh := 15 }

theorem witness_OwnSnapshotAdvancesTheJob :
    transmits (transferring (.startPending wholeGrid)).seq.state = true
      ∧ (transferring (.startPending wholeGrid)).line.attempt
          = some { source := .transferUnit, content := .start wholeGrid 2 (some 120) 0xABCD }
      ∧ classOf (.start wholeGrid 2 (some 120) 0xABCD) = .snapshot
      ∧ (allPoints.filter fun q => isOwn testCfg q && inWindow wholeGrid q) = 20 :: [37]
      ∧ (transferring (.dataPending wholeGrid (some 20) 1 4)).transfer.job = .dataPending wholeGrid (some 20) 1 4
      ∧ (∀ q : PointIndex, isOwn testCfg q = true → inWindow emptyWindow q = false)
      ∧ (transferring (.dataPending wholeGrid (some 20) 1 3)).transfer.pendingRegion = none := by decide +kernel

theorem witness_DiscardedFramesReachNoConsumer :
    hears 11 base = true ∧ base.line.awaitsGap = false ∧ receives (inState .withdrawn base).seq.state = false ∧ receives State.reset.seq.state = false
      ∧ (awaitGap base).line.awaitsGap = true ∧ frameGap (.pointFrame ⟨10, 3⟩ []) = some 10
      ∧ (frameGap (.faultyFrameReceived ⟨0, .codingBreak⟩)).isSome = true
      ∧ hears 11 (awaitGap base) = true ∧ hears 10 (awaitGap base) = false := by decide +kernel

theorem witness_PointFrameIsWritten :
    hears 11 base = true ∧ base.cfg.self ≠ some 2 ∧ base.loader.digest = some 0xABCD
      ∧ base.cfg.points[(38 : PointIndex)].owner = some 2 ∧ recordOfWire alertWire = some (plain .alert 121 1) := by decide +kernel

theorem witness_UnwrittenPointFrameStillCounts :
    hears 11 base = true ∧ base.cfg.self ≠ some 2 ∧ base.loader.digest = some 0xABCD ∧ (0x1111 : Word) ≠ 0xABCD
      ∧ base.cfg.points[(20 : PointIndex)].owner ≠ some 2 ∧ (readRecord 0xA0 0 0 0).code = 5 ∧ (readRecord 0xC0 0 0 0).code = 6
      ∧ (readRecord 0xE0 0 0 0).code = 7 ∧ base.members.entries[(2 : Station)].state ≠ .mismatch
      ∧ (withMember 2 .mismatch base).members.entries[(2 : Station)].state = .mismatch := by decide +kernel

theorem witness_OperatorFrameIsAppliedByDigestAlone :
    hears 11 base = true ∧ ownField base ≠ some 31 ∧ ownField base ≠ some 3 ∧ base.loader.digest = some 0xABCD
      ∧ stationOfField 31 = none ∧ stationOfField 3 = some 2 ∧ (0x1111 : Word) ≠ 0xABCD := by decide +kernel

theorem witness_JoinFrameMovesItsSenderAndIsAnswered :
    ∀ st ∈ [LineState.listening, .joining, .syncing, .synced],
      hears 11 (inState st base) = true ∧ (inState st base).cfg.self ≠ some 5 ∧ (inState st base).loader.digest = some 0xABCD := by
  decide +kernel

theorem witness_StartOpensTheSendersContext :
    hears 11 base = true ∧ base.cfg.self ≠ some 5 ∧ base.loader.digest = some 0xABCD ∧ windowValid wholeGrid = true
      ∧ windowValid { rowLow := 4, rowHigh := 5, columnLow := 0, columnHigh := 15 } = true ∧ (0 : Nat) ≤ 32 ∧ (32 : Nat) ≤ 32 := by
  decide +kernel

theorem witness_DataPartIsWrittenFromTheCursor :
    hears 11 (withContext 5 openContext (withMember 5 .joining base)) = true ∧ base.cfg.self ≠ some 5
      ∧ base.loader.digest = some 0xABCD
      ∧ (withContext 5 openContext (withMember 5 .joining base)).transfer.contexts[(5 : Station)] = some openContext
      ∧ openContext.cursor = some 100
      ∧ (withContext 5 openContext (withMember 5 .joining base)).members.entries[(5 : Station)].lastDigest = some 0xABCD
      ∧ 1 ≤ openContext.expectedPart ∧ openContext.expectedPart ≤ 11
      ∧ 3 ≤ (allPoints.filter fun p => testCfg.points[p].owner == some 5 && inWindow wholeGrid p && (100 : PointIndex) ≤ p).length
      ∧ [alertWire, alertWire, alertWire].length = openContext.remaining ∧ [alertWire].length < openContext.remaining := by decide +kernel

theorem witness_RefusedDataPartCountsOneDrop :
    hears 11 base = true ∧ base.cfg.self ≠ some 5 ∧ base.transfer.contexts[(5 : Station)] = none
      ∧ (withContext 5 openContext base).transfer.contexts[(5 : Station)] = some openContext
      ∧ 2 ≠ openContext.expectedPart ∧ { openContext with remaining := 2 }.remaining < 3 ∧ 1 ≠ openContext.remaining
      ∧ { openContext with cursor := none }.cursor = none
      ∧ (allPoints.filter fun p => testCfg.points[p].owner == some 5 && inWindow wholeGrid p && (101 : PointIndex) ≤ p).length < 3 := by
  decide +kernel

theorem witness_PresenceMovesItsSenderAndComparesCounts :
    hears 11 base = true ∧ base.cfg.self ≠ some 2 ∧ base.loader.digest = some 0xABCD ∧ base.seq.countValid = true
      ∧ State.reset.seq.countValid = false ∧ (withMember 2 .present base).members.entries[(2 : Station)].state = .present := by decide +kernel

theorem witness_UnnumberedSendersReachNoEntry :
    hears 11 base = true ∧ stationOfField 0 = none ∧ stationOfField 31 = none ∧ ownField base ≠ some 31
      ∧ movesMembership (.pointFrame ⟨11, 31⟩ []) = true ∧ frameSender (.pointFrame ⟨11, 31⟩ []) = some 31
      ∧ frameGap (.pointFrame ⟨11, 31⟩ []) = some 11 := by decide +kernel

theorem witness_MalformedFramesWriteNothing :
    hears 11 base = true ∧ ownField base ≠ some 3 ∧ ownField base ≠ some 31 ∧ stationOfField 3 = some 2 ∧ stationOfField 31 = none
      ∧ readPayload .point [1] = none ∧ readPayload .snapshot [12] = none ∧ readPayload .snapshot [] = none
      ∧ readPayload .operator [4, 0, 0, 0, 0, 0, 0] = none ∧ readPayload .join [0, 0, 4] = none ∧ readPayload .presence [0, 0, 0, 0, 7] = none
      ∧ readPayload .query [1, 31] = none ∧ readPayload .reply [1, 31] = none := by decide +kernel

theorem witness_QueriesFillTheReplySlot :
    hears 11 base = true ∧ ownField base ≠ some 31 ∧ (List.replicate 9 (0 : Byte)).length = 9 ∧ (List.replicate 14 (0 : Byte)).length = 14
      ∧ base.cfg.self = some 8 ∧ numberOf 8 = (9 : Fin 31).val ∧ numberOf 8 ≠ (3 : Fin 31).val ∧ numberOf 8 ≠ (0 : Fin 31).val := by
  decide +kernel

theorem witness_RegionQueryStartsOrWaitsOrDrops :
    hears 11 base = true ∧ ownField base ≠ some 31 ∧ windowFits wholeGrid = true ∧ windowValid wholeGrid = true
      ∧ windowFits { rowLow := 0, rowHigh := 255, columnLow := 0, columnHigh := 15 } = true
      ∧ windowValid { rowLow := 0, rowHigh := 255, columnLow := 0, columnHigh := 15 } = false
      ∧ base.transfer.job = .idle ∧ (withJob (.startPending wholeGrid) base).transfer.job ≠ .idle
      ∧ base.cfg.self = some 8 ∧ numberOf 8 = (9 : Fin 31).val ∧ (0 : Fin 31).val = 0 := by decide +kernel

theorem witness_RestartQueryRestartsSoftly :
    hears 11 base = true ∧ ownField base ≠ some 31 ∧ base.cfg.self = some 8 ∧ numberOf 8 = (9 : Fin 31).val
      ∧ pointOfLine base.cfg 5 = some 37 ∧ impliedLevel base.points[(37 : PointIndex)].state = some .normal := by decide +kernel

/-- Station 9 in LISTENING with its listen timer at a value. -/
def listening (ms : Nat) : State := base.setSeq { State.reset.seq with state := .listening, listenTimer := some ms }

/-- Station 9 in SYNCING with its sync timer at a value. -/
def syncing (ms : Nat) : State := base.setSeq { base.seq with state := .syncing, syncTimer := some ms }

theorem witness_ListenAndHoldOffExpiries :
    (listening 0).seq.state = .listening ∧ (listening 0).seq.listenTimer = some 0 ∧ (listening 0).timers.t0 = .idle
      ∧ ((inState .withdrawn base).setLine { base.line with holdOff := some 0 }).seq.state = .withdrawn
      ∧ ((inState .withdrawn base).setLine { base.line with holdOff := some 0 }).line.holdOff = some 0 := by decide +kernel

theorem witness_SyncExpiryEntersSynced :
    (syncing 0).seq.state = .syncing ∧ (syncing 0).seq.syncTimer = some 0 ∧ (syncing 0).line.attempt = none
      ∧ (syncing 0).seq.countValid = true ∧ isStale (withMember 2 .stale (syncing 0)) 2 = true
      ∧ ((syncing 0).setSeq { (syncing 0).seq with countValid := false }).seq.pointHeard = false
      ∧ ∀ n : Station, isStale (syncing 0) n = false ∧ isPresent (syncing 0) n = false := by decide +kernel

theorem witness_LastStaleEntryEndsSyncing :
    (withMember 2 .stale (syncing 9)).seq.state = .syncing
      ∧ (∃ t, exec (.absentTimeout 2) (withSilent 2 .stale (syncing 9)) = .next t ∧ t.seq.state ≠ .halted ∧ anyStale t = false
          ∧ t.members.entries[(2 : Station)].state ≠ (withSilent 2 .stale (syncing 9)).members.entries[(2 : Station)].state)
      ∧ ∃ t, exec (.absentTimeout 3) (withSilent 3 .joining (withMember 2 .stale (syncing 9))) = .next t ∧ t.seq.state ≠ .halted
          ∧ anyStale t = true :=
  ⟨by decide +kernel, ⟨_, rfl, by decide +kernel⟩, ⟨_, rfl, by decide +kernel⟩⟩

theorem witness_AbsentTimeoutLosesTheStation :
    receives (withSilent 2 .present base).seq.state = true ∧ base.cfg.self ≠ some 2
      ∧ (withSilent 2 .present base).members.entries[(2 : Station)].state ≠ .absent
      ∧ 4 * base.cfg.presenceMs ≤ (withSilent 2 .present base).members.entries[(2 : Station)].ageMs
      ∧ (withMember 2 .present base).members.entries[(2 : Station)].ageMs < 4 * base.cfg.presenceMs
      ∧ (withSilent 2 .present base).line.attempt = none
      ∧ (sending .membershipTable (.query (.region 3 wholeGrid)) base).line.attempt
          = some { source := .membershipTable, content := .query (.region 3 wholeGrid) }
      ∧ (base.setMembers { base.members with repairFlag := true }).members.repairFlag = true := by decide +kernel

theorem witness_RepairAndPresenceExpiries :
    (base.setMembers { base.members with repairTimer := some 0 }).members.repairTimer = some 0
      ∧ (base.setMembers { base.members with repairTimer := some 0 }).members.repairFlag = false
      ∧ (base.setMembers { base.members with repairTimer := some 0, repairFlag := true }).members.repairFlag = true
      ∧ (base.setTimers { base.timers with t0 := .counting 0 }).timers.t0 = .counting 0
      ∧ transmits (sending .timerT0 (.presence 0xABCD none .synced) (base.setTimers { base.timers with t0 := .counting 0 })).seq.state = true
      ∧ (sending .timerT0 (.presence 0xABCD none .synced) (base.setTimers { base.timers with t0 := .counting 0 })).timers.t0 = .counting 0
      ∧ (sending .timerT0 (.presence 0xABCD none .synced) base).line.attempt
          = some { source := .timerT0, content := .presence 0xABCD none .synced }
      ∧ base.cfg.presenceMs ≠ 0 ∧ base.members.repairTimer ≠ some 0 ∧ base.timers.t0 ≠ .counting 0 := by decide +kernel

theorem witness_ExpiriesPutEffectsInForce :
    (base.setTimers { base.timers with t1 := .counting 0, t2 := .counting 0, t3 := .counting 0 }).timers.t1 = .counting 0
      ∧ base.panel.horn = hornPattern (base.setTimers { base.timers with t1 := .counting 0, t2 := .counting 0, t3 := .counting 0 })
      ∧ (base.setLamp { base.lamp with test := .active 0 }).lamp.test = .active 0 := by decide +kernel

theorem witness_TimersTakeEachMomentOnce :
    hears 11 base = true ∧ movesMembership (.pointFrame ⟨11, 3⟩ []) = true ∧ (∃ t, exec (.pointFrame ⟨11, 3⟩ []) base = .next t)
      ∧ transmits base.seq.state = true
      ∧ (∃ t, exec .ownFrameSuccessfulEnd (sending .timerT0 (.presence 0xABCD none .synced) base) = .next t)
      ∧ (withCounts 15 2 (sending .timerT0 (.presence 0xABCD none .synced) base)).line.failures = 15
      ∧ (∃ t, exec .attemptVoided (withCounts 15 2 (sending .timerT0 (.presence 0xABCD none .synced) base)) = .next t)
      ∧ (∃ t, exec .echoMismatch (withCounts 15 2 (sending .timerT0 (.presence 0xABCD none .synced) base)) = .next t)
      ∧ base.cfg.self ≠ some 2 ∧ (withSilent 2 .present base).members.entries[(2 : Station)].state ≠ .absent
      ∧ 4 * base.cfg.presenceMs ≤ (withSilent 2 .present base).members.entries[(2 : Station)].ageMs
      ∧ (∃ t, exec (.absentTimeout 2) (withSilent 2 .present base) = .next t)
      ∧ (base.setSeq { base.seq with state := .listening, listenTimer := some 0 }).seq.listenTimer = some 0
      ∧ (base.setSeq { base.seq with state := .syncing, syncTimer := some 0 }).seq.syncTimer = some 0
      ∧ ((inState .withdrawn base).setLine { base.line with holdOff := some 0 }).line.holdOff = some 0 :=
  ⟨rfl, rfl, ⟨_, rfl⟩, rfl, ⟨_, rfl⟩, rfl, ⟨_, rfl⟩, ⟨_, rfl⟩, by decide, by decide +kernel, by decide +kernel, ⟨_, rfl⟩, rfl, rfl, rfl⟩

/-- Station 9 with button `b` at its settling's end, from released to pressed or back. -/
def settlingButton (b : Button) (raw stable : ButtonLevel) (s : State) : State :=
  setButtonDebouncer b { raw := raw, stable := stable, settling := some 0 } s

theorem witness_TakesSample :
    TakesSample (.fieldInputChange 5 .low) base ∧ TakesSample (.inputSettlingExpiry 5) (settlingLine 0 5 base)
      ∧ TakesSample (.inputSettlingAbandoned 5) (settlingLine 3 5 base) ∧ TakesSample (.buttonInputChange .ack .low) base
      ∧ TakesSample (.buttonSettlingExpiry .ack) (settlingButton .ack .pressed .released base)
      ∧ TakesSample (.buttonSettlingAbandoned .ack) (settlingButton .ack .pressed .released base) :=
  ⟨⟨rfl, .inl ⟨5, by decide, .inl ⟨_, rfl⟩⟩⟩, ⟨rfl, .inl ⟨5, by decide, .inr (.inl ⟨rfl, rfl⟩)⟩⟩,
    ⟨rfl, .inl ⟨5, by decide, .inr (.inr ⟨rfl, rfl⟩)⟩⟩, ⟨rfl, .inr ⟨.ack, .inl ⟨_, rfl⟩⟩⟩, ⟨rfl, .inr ⟨.ack, .inr (.inl ⟨rfl, rfl⟩)⟩⟩,
    ⟨rfl, .inr ⟨.ack, .inr (.inr ⟨rfl, rfl⟩)⟩⟩⟩

/-- A press withdraws T3's mute, and a line that settles leaves T1's effect in force, whose mask does not name INPUT (R149, R153, R160). -/
theorem test_press_reloads_t3 :
    holdsAfter
        (exec (.buttonSettlingExpiry .ack)
          (settlingButton .ack .pressed .released
            (withRecord 20 (plain .alert 121 1) (base.setTimers { base.timers with t1 := .expired, t3 := .expired }))))
        (fun t => t.timers.t3 == .counting 60000 && t.panel.horn == .continuous && t.timers.t1 == .counting 600000) = true
      ∧ holdsAfter (exec (.inputSettlingExpiry 5) (settlingLine 0 5 (base.setTimers { base.timers with t1 := .expired })))
          (fun t => t.timers.t1 == .expired && brightness t == .dim) = true := by
  decide +kernel

theorem witness_FieldSampleFollowsTheSettlingTable :
    panelRuns base.seq.state = true ∧ pointOfLine base.cfg 5 = some 37
      ∧ (Level.abnormal = .abnormal ↔ (PinLevel.low = .low ↔ base.cfg.points[(37 : PointIndex)].abnormalWhenClosed = true))
      ∧ (Level.normal = .abnormal ↔ (PinLevel.undriven = .low ↔ base.cfg.points[(37 : PointIndex)].abnormalWhenClosed = true))
      ∧ base.scanner.lines[(5 : InputLine)].debouncer.settling = none ∧ Level.abnormal ≠ base.scanner.lines[(5 : InputLine)].debouncer.stable
      ∧ 0 < base.cfg.points[(37 : PointIndex)].debounceMs
      ∧ (settlingLine 3 5 base).scanner.lines[(5 : InputLine)].debouncer.settling = some 3
      ∧ (settlingLine 0 5 base).scanner.lines[(5 : InputLine)].debouncer.settling = some 0
      ∧ (settlingLine 0 5 base).scanner.lines[(5 : InputLine)].debouncer.raw
          ≠ (settlingLine 0 5 base).scanner.lines[(5 : InputLine)].debouncer.stable := by
  decide +kernel

theorem witness_InputSettlingEnds :
    panelRuns (settlingLine 0 5 base).seq.state = true ∧ (pointOfLine base.cfg 5).isSome = true
      ∧ (settlingLine 0 5 base).scanner.lines[(5 : InputLine)].debouncer.settling = some 0
      ∧ (settlingLine 3 5 base).scanner.lines[(5 : InputLine)].debouncer.settling = some (2 + 1)
      ∧ (settlingLine 0 5 base).scanner.queue.length < 24
      ∧ (settlingLine 0 5 base).scanner.lines[(5 : InputLine)].debouncer.raw
          ≠ (settlingLine 0 5 base).scanner.lines[(5 : InputLine)].debouncer.stable
      ∧ (settlingLine 0 5 base).scanner.lines[(5 : InputLine)].reported = (settlingLine 0 5 base).scanner.lines[(5 : InputLine)].debouncer.stable
      ∧ (∀ m : InputLine, m ≠ 5 → isUnreported testCfg (settlingLine 0 5 base).scanner m = false)
      ∧ panelRuns (inState .halted base).seq.state = false ∧ pointOfLine base.cfg 31 = none := by decide +kernel

theorem witness_ButtonSampleFollowsTheSettlingTable :
    (ButtonLevel.pressed = .pressed ↔ PinLevel.low = .low) ∧ (ButtonLevel.released = .pressed ↔ PinLevel.undriven = .low)
      ∧ panelRuns base.seq.state = true ∧ panelRuns State.reset.seq.state = false ∧ (debouncerOf base.panel .ack).settling = none
      ∧ (debouncerOf { base.panel with ack := { raw := .pressed, stable := .released, settling := some 4 } } .ack).settling = some (3 + 1)
      ∧ (debouncerOf { base.panel with ack := { raw := .pressed, stable := .released, settling := some 0 } } .ack).settling = some 0 := by
  decide +kernel

theorem witness_PressesEnterTheQueueOrDrop :
    ∀ b ∈ [Button.ack, .silence, .reset, .test],
      panelRuns (settlingButton b .pressed .released base).seq.state = true
        ∧ debouncerOf (settlingButton b .pressed .released base).panel b = { raw := .pressed, stable := .released, settling := some 0 }
        ∧ (settlingButton b .pressed .released base).panel.queue.length < 4
        ∧ debouncerOf (settlingButton b .released .pressed (inState .withdrawn base)).panel b
            = { raw := .released, stable := .pressed, settling := some 0 } := by decide +kernel

theorem witness_OutputsFollowTheControlSet :
    base.hold.powered = true ∧ (base.setLine { base.line with drive := .void }).line.drive = .void
      ∧ (base.setLine { base.line with drive := .faultMark }).line.drive = .faultMark
      ∧ (sending .timerT0 (.presence 0xABCD none .synced) base).line.drive = .frame
      ∧ endOfAttempt (sending .timerT0 (.presence 0xABCD none .synced) base) { source := .timerT0, content := .presence 0xABCD none .synced } []
          = .successful
      ∧ endOfAttempt (sending .timerT0 (.presence 0xABCD none .synced) base) { source := .timerT0, content := .presence 0xABCD none .synced }
          [false, false] = .lostArbitration 1
      ∧ base.line.drive = .recessive ∧ State.reset.loader.state ≠ .reading
      ∧ ({ State.reset with loader := { State.reset.loader with state := .reading } } : State).loader.state = .reading := by decide +kernel

/-- R39, R201: LTX is low for the two bit times of a void and the eight of a fault mark, and carries a PRESENCE of station 9 from its start bit on:
the field 100 01001. -/
theorem test_ltx :
    (List.range 10).map (fun k => ltxPin (base.setLine { base.line with drive := .void }) [] k == .high) = [false, false] ++ List.replicate 8 true
      ∧ (List.range 10).map (fun k => ltxPin (base.setLine { base.line with drive := .faultMark }) [] k == .high)
          = List.replicate 8 false ++ [true, true]
      ∧ (List.range 9).map (fun k => ltxPin (sending .timerT0 (.presence 0xABCD none .synced) base) [] k == .high)
          = [false, true, false, false, false, true, false, false, true] := by decide +kernel

theorem witness_MatrixShowsTheWindow :
    base.cfg.display = some { originRow := 2, originColumn := 0, rows := 8, columns := 8 } ∧ panelRuns base.seq.state = true
      ∧ State.reset.seq.state = .off ∧ State.reset.cfg.display = none ∧ State.reset.pending = []
      ∧ (inState .halted State.reset).seq.state = .halted
      ∧ (inState .halted State.reset).cfg.display = none ∧ (0 : Nat) < 2000
      ∧ (base.setLamp { base.lamp with test := .active 30000 }).lamp.test = .active 30000 ∧ base.lamp.test = .idle
      ∧ (37 : PointIndex).val = (2 + (0 : Fin 8).val) * 16 + (0 + (5 : Fin 8).val) ∧ shownPoint base.cfg 0 5 = some 37
      ∧ shownPoint base.cfg 7 7 = some 151 := by decide +kernel

theorem base_own {p : PointIndex} (h : isOwn testCfg p = true) : base.points[p] = quietRecord := by
  rw [base_record]
  simp [h]

theorem witness_LostMarkingFollowsMembership :
    OwnKnownInv base ∧ UnusedQuietInv base ∧ LossInv base ∧ ∃ t, step base = .next t := by
  refine ⟨fun p h => ?_, fun _ p h => ?_, ⟨fun p n howner hself _ => ?_, by decide +kernel, by decide +kernel⟩, _, rfl⟩
  · rw [base_own h]
    decide
  · have hu : isUsed testCfg p = false := h
    rw [base_record]
    simp [hu]
  · have ho : testCfg.points[p].owner = some n := howner
    have hu : isUsed testCfg p = true := by simp only [isUsed, usedPoint, ho, Option.isSome_some]
    have hne : (n == (8 : Station)) = false := by
      simp only [beq_eq_false_iff_ne]
      intro e
      exact hself (by rw [e]; rfl)
    have hn : isOwn testCfg p = false := by
      simp only [isOwn, ownPoint, ho, Option.isSome_some, Bool.true_and]
      exact hne
    rw [base_record]
    simp only [hu, hn, Bool.not_false, Bool.and_self, if_true]
    rfl

theorem witness_QueuesStayWithinBounds : ReportInv base ∧ OperatorInv base ∧ ∃ t, step base = .next t :=
  ⟨by unfold ReportInv; decide +kernel, by unfold OperatorInv; decide +kernel, _, rfl⟩

theorem witness_QueuedReportsLeadToTheReportedLevel : ReportChainInv base ∧ ∃ t, step base = .next t := by
  refine ⟨⟨fun l p h => ⟨.normal, ?_, ?_⟩, ?_, fun _ _ => rfl, fun _ => rfl, fun p h => ?_⟩, _, rfl⟩
  · rw [base_own (pointOfLine_some h).1]
    rfl
  · have hl : ∀ m : InputLine, base.scanner.lines[m] = restingLine := by decide +kernel
    rw [hl l]
    rfl
  · intro a p w d h
    have hn : base.line.attempt = none := rfl
    rw [hn] at h
    cases h
  · rw [base_own h]
    decide

theorem witness_LineItemsFitTheLineState :
    AttemptInv base ∧ FailureInv base ∧ SequencerInv base ∧ ResetInv base ∧ ∃ t, step base = .next t :=
  ⟨by unfold AttemptInv; decide +kernel, by unfold FailureInv; decide +kernel, by unfold SequencerInv; decide +kernel,
    by unfold ResetInv; decide +kernel, _, rfl⟩

theorem witness_TimersAndHornFollowTheState :
    TimersInv timed ∧ HornInv timed ∧ (∃ t, step timed = .next t)
      ∧ (∃ t, exec .ownFrameSuccessfulEnd
            (sending .reportQueue (.point 20 (wireOfRecord (plain .ringback 100 3)) 0xABCD) (withRecord 20 (plain .held 100 2) base)) = .next t
          ∧ t.panel.horn = .intermittent)
      ∧ (base.setPanel { base.panel with horn := .intermittent }).panel.horn = .intermittent
      ∧ (base.setPanel { base.panel with horn := .intermittent }).pending = [] :=
  ⟨by unfold TimersInv armedAs; decide +kernel, by unfold HornInv; decide +kernel, ⟨_, rfl⟩, ⟨_, rfl, by decide +kernel⟩, rfl, rfl⟩

theorem witness_LineStateMovesByItsTable : ∃ t, exec .listenTimerExpiry (listening 0) = .next t ∧ t.seq.state = .joining :=
  ⟨_, rfl, by decide +kernel⟩

theorem witness_PayloadsReadBack :
    contentFits (.point 20 alertWire 0xABCD) = true ∧ contentFits (.start wholeGrid 32 none 0xABCD) = true
      ∧ contentFits (.data 11 true [alertWire, alertWire, alertWire]) = true ∧ contentFits (.query (.region 30 wholeGrid)) = true
      ∧ contentFits (.reply .members 31 (List.replicate 9 0)) = true := by decide +kernel

/-- R35, R39: ten dominant bits of overlapping fault marks are no start bit, and the idle gap is counted from their release. -/
theorem test_read_behind_mark :
    readBehindMark (List.replicate 10 false ++ (List.replicate 11 true ++ frameBits .join 6 [1, 2, 3])) = some (.joinFrame ⟨11, 6⟩ [1, 2, 3])
      ∧ readBehindMark (List.replicate 10 false ++ List.replicate 11 true) = none := by decide +kernel

/-- R33, R39: the faults of a span found on LRX: a fifth equal bit in the header, a length of 17, and a check of 0. -/
theorem test_receiver_finds_faults :
    readFrame 11 [false, false, false, false, false] = some (.faultyFrameReceived ⟨11, .codingBreak⟩)
      ∧ readFrame 11 (insertBits (false :: (byteBits 0x4A ++ lengthBits 17))) = some (.faultyFrameReceived ⟨11, .lengthFault⟩)
      ∧ readFrame 11 (insertBits (false :: (checkedBits 0x4A [1, 2, 3] ++ wordBits 0))) = some (.faultyFrameReceived ⟨11, .checkFault⟩) := by
  decide +kernel

theorem witness_SentFramesAreJudgedSound :
    1 ≤ 11 ∧ (List.replicate 16 (0 : Byte)).length ≤ 16 ∧ ([] : List Byte).length ≤ 16
      ∧ (List.replicate 16 false).length = (if 0 ≤ 16 then 8 * 0 + 16 else 0)
      ∧ 4 + 1 < (insertBits (false :: (byteBits 0x0A ++ lengthBits 0 ++ List.replicate 16 false))).length
      ∧ ((insertBits (false :: (byteBits 0x0A ++ lengthBits 0 ++ List.replicate 16 false))).drop (4 - 4)).take 4 = List.replicate 4 false
      ∧ (0 : Word) ≠ checkOfBits (checkedBits 0x4A [1, 2, 3])
      ∧ (∃ before : List Bool, insertBits (spanBits (arbitrationField .join 13) []) = before ++ (List.replicate 4 true ++ [false])) := by
  refine ⟨by decide, by decide, by decide, rfl, by decide +kernel, by decide +kernel, by decide +kernel, ?_⟩
  exact ⟨(insertBits (spanBits (arbitrationField .join 13) [])).dropLast.dropLast.dropLast.dropLast.dropLast, by decide +kernel⟩

end Sys2Proof.Tests
end

section
/-! PROOFS. The alarm sequence on one record and in one attempt (R8 to R10, R12), and first-out: the tie rule clause by clause, and that no command
leaves a group with two flags (R24). -/

namespace Sys2Proof.Machine

open Sys2Proof

/-! ## Operations on one record (R10 to R12) -/

/-- ACK of a record whose mark lies within the horizon (R10). -/
theorem acknowledge_within {horizon : Word} {r : PointRecord} (h : (horizon - r.alertMark).toNat < 32768) (ringback : Bool) :
    acknowledge horizon ringback r
      = if r.state = .alert then { r with state := .held, changeCount := r.changeCount + 1 }
        else if r.state = .returned then
          (if ringback then { r with state := .ringback, silenced := false, changeCount := r.changeCount + 1 }
           else { quietRecord with changeCount := r.changeCount + 1 })
        else r := by
  have hw : withinHorizon horizon r.alertMark = true := decide_eq_true h
  unfold acknowledge
  cases hs : r.state <;> simp [hw, counted, toRingback, toQuiet, quietRecord]

/-- ACK leaves a record whose mark lies beyond the horizon (R14). -/
theorem acknowledge_beyond {horizon : Word} {r : PointRecord} (h : ¬ (horizon - r.alertMark).toNat < 32768) (ringback : Bool) :
    acknowledge horizon ringback r = r := by
  have hw : withinHorizon horizon r.alertMark = false := decide_eq_false h
  unfold acknowledge
  cases hs : r.state <;> simp [hw]

/-- SILENCE takes an unsilenced ALERT or RETURNED record alone (R11). -/
theorem silence_eq (r : PointRecord) :
    silence r
      = if (r.state = .alert ∨ r.state = .returned) ∧ r.silenced = false then
          { r with silenced := true, changeCount := r.changeCount + 1 }
        else r := by
  unfold silence
  cases hs : r.state <;> cases hq : r.silenced <;> simp [counted, hs]

/-- RESET takes a RINGBACK record alone, to QUIET (R12). -/
theorem resetPoint_eq (r : PointRecord) :
    resetPoint r = if r.state = .ringback then { quietRecord with changeCount := r.changeCount + 1 } else r := by
  unfold resetPoint
  cases hs : r.state <;> simp [toQuiet, quietRecord]

/-- Settles O12: the three operations are given by `acknowledge_within` and `acknowledge_beyond`, `silence_eq` and `resetPoint_eq`. -/
theorem operationsOnOneRecord : Obligations.OperationsOnOneRecord := by
  intro r horizon ringback
  refine ⟨?_, silence_eq r, resetPoint_eq r⟩
  change acknowledge horizon ringback r = _
  split
  · next h => exact acknowledge_within h ringback
  · next h => exact acknowledge_beyond h ringback

/-! ## The attempt of a report (R8, R9, R15, R50) -/

/-- While SYNCED a waiting report is the source selected: every source is allowed, and none has a lower class (R49, R50). -/
theorem selectSource_of_report {s : State} {e : ReportEntry} {rest : List ReportEntry} (hs : s.seq.state = .synced)
    (hq : s.scanner.queue = e :: rest) : selectSource s = some .reportQueue := by
  simp [selectSource, allSources, sourceAllowed, sourceReady, hs, hq]

/-- The POINT frame of the head report carries the record the owner computes and the station's digest (R15, R124). -/
theorem buildPoint_of_report {s : State} {e : ReportEntry} {rest : List ReportEntry} {p : PointIndex} {d : Word}
    (hq : s.scanner.queue = e :: rest) (hp : pointOfLine s.cfg e.line = some p) (hd : s.loader.digest = some d) :
    buildPoint s = some (.point p (wireOfRecord (reportedRecord s.cfg s.points s.seq.orderCount e.event p)) d) := by
  simp [buildPoint, ownDigest, hq, hp, hd]

/-- ATTEMPT_START at a SYNCED station with a report waiting puts that POINT frame on the line, and nothing but the attempt changes (R50). -/
theorem attemptStart_of_report {s : State} {e : ReportEntry} {rest : List ReportEntry} {p : PointIndex} {d : Word}
    (hs : s.seq.state = .synced) (ha : s.line.attempt = none) (hq : s.scanner.queue = e :: rest)
    (hp : pointOfLine s.cfg e.line = some p) (hd : s.loader.digest = some d) :
    exec .attemptStart s
      = .next { s with
          line := { s.line with
                    attempt :=
                      some { source := .reportQueue
                             content := .point p (wireOfRecord (reportedRecord s.cfg s.points s.seq.orderCount e.event p)) d }
                    drive := .frame
                    awaitsGap := false } } := by
  have hsel : selectAttempt s
      = some { source := .reportQueue
               content := .point p (wireOfRecord (reportedRecord s.cfg s.points s.seq.orderCount e.event p)) d } := by
    simp [selectAttempt, selectSource_of_report hs hq, buildFrame, buildPoint_of_report hq hp hd]
  change execAttemptStart s = _
  simp [execAttemptStart, ha, hsel, State.setLine]

/-- A point has a rival exactly when another used point of its group holds first_out. -/
theorem rivalOf_isSome_iff (cfg : Configuration) (records : Records) (p : PointIndex) :
    (rivalOf cfg records p).isSome = true
      ↔ ∃ q : PointIndex, q ≠ p ∧ isUsed cfg q = true ∧ cfg.points[q].group = cfg.points[p].group ∧ records[q].firstOut = true := by
  constructor
  · intro h
    obtain ⟨q, hq⟩ := Option.isSome_iff_exists.1 h
    exact ⟨q, rivalOf_some hq⟩
  · rintro ⟨q, hne, hu, hg, hf⟩
    cases hr : rivalOf cfg records p with
    | some _ => rfl
    | none =>
      rw [rivalOf_none hr q hne hu hg] at hf
      cases hf

/-- TRIP of a QUIET or RINGBACK record: ALERT, with first_out unless the group has its flag already (R7, R8). -/
theorem trip_fresh {r : PointRecord} (h : r.state = .quiet ∨ r.state = .ringback) (groupHasFlag : Bool) (mark : Word) :
    trip groupHasFlag mark r
      = { state := .alert, firstOut := !groupHasFlag, silenced := false, changeCount := r.changeCount + 1, alertMark := mark } := by
  rcases h with h | h <;> simp [trip, h, counted]

/-- TRIP of a RETURNED record: ALERT again, with first_out kept (R8). -/
theorem trip_returned {r : PointRecord} (h : r.state = .returned) (groupHasFlag : Bool) (mark : Word) :
    trip groupHasFlag mark r
      = { r with state := .alert, alertMark := mark, silenced := false, changeCount := r.changeCount + 1 } := by
  simp [trip, h, counted]

/-- TRIP leaves a record that stands for abnormal (R13). -/
theorem trip_abnormal {r : PointRecord} (h : r.state = .alert ∨ r.state = .held) (groupHasFlag : Bool) (mark : Word) :
    trip groupHasFlag mark r = r := by
  rcases h with h | h <;> simp [trip, h]

/-- CLEAR of an ALERT record: RETURNED with lock-in, else QUIET (R9). -/
theorem clear_alert {r : PointRecord} (h : r.state = .alert) (lockIn ringback : Bool) :
    clear lockIn ringback r
      = if lockIn then { r with state := .returned, changeCount := r.changeCount + 1 }
        else { quietRecord with changeCount := r.changeCount + 1 } := by
  simp [clear, h, counted, toQuiet, quietRecord]

/-- CLEAR of a HELD record: RINGBACK where configured, else QUIET (R9). -/
theorem clear_held {r : PointRecord} (h : r.state = .held) (lockIn ringback : Bool) :
    clear lockIn ringback r
      = if ringback then { r with state := .ringback, silenced := false, changeCount := r.changeCount + 1 }
        else { quietRecord with changeCount := r.changeCount + 1 } := by
  simp [clear, h, counted, toRingback, toQuiet, quietRecord]

/-- CLEAR leaves a record that stands for normal (R13). -/
theorem clear_normal {r : PointRecord} (h : r.state = .quiet ∨ r.state = .returned ∨ r.state = .ringback) (lockIn ringback : Bool) :
    clear lockIn ringback r = r := by
  rcases h with h | h | h <;> simp [clear, h]

/-- Settles O10: the frame is that of `attemptStart_of_report`, and its record is `trip` of the owner's own, case by case. -/
theorem tripIsBuiltFromTheOwnersRecord : Obligations.TripIsBuiltFromTheOwnersRecord := by
  intro s l rest p d hs ha hq hp hd
  refine ⟨_, attemptStart_of_report hs ha hq hp hd, fun h => ?_, fun h => trip_returned h _ _, fun h => trip_abnormal h _ _⟩
  have hout : reportedRecord s.cfg s.points s.seq.orderCount .trip p = _ := trip_fresh h _ _
  rw [hout]
  refine ⟨rfl, rfl, rfl, rfl, ?_⟩
  rw [← rivalOf_isSome_iff, Bool.not_eq_false']

/-- Settles O11: the frame is that of `attemptStart_of_report`, and its record is `clear` of the owner's own, case by case. -/
theorem clearIsBuiltFromTheOwnersRecord : Obligations.ClearIsBuiltFromTheOwnersRecord := by
  intro s l rest p d hs ha hq hp hd
  exact ⟨_, attemptStart_of_report hs ha hq hp hd, fun h => clear_alert h _ _, fun h => clear_held h _ _, fun h => clear_normal h _ _⟩

/-! ## The tie rule, clause by clause (R24) -/

/-- Of two marks at most one is later than the other. -/
theorem laterThan_asymm {a b : Word} (h : laterThan a b = true) : laterThan b a = false := by
  simp only [laterThan, Bool.and_eq_true, bne_iff_ne, decide_eq_true_eq] at h
  obtain ⟨hne, hlt⟩ := h
  have hge : ¬ (b - a).toNat < 32768 := by bv_omega
  simp only [laterThan, hge, decide_false, Bool.and_false]

theorem laterThan_self (a : Word) : laterThan a a = false := by simp [laterThan]

/-- The point with the later mark loses. -/
theorem losesTie_of_later {a b : PointRecord} (h : laterThan a.alertMark b.alertMark = true) (p q : PointIndex) :
    losesTie p a q b = true := by
  simp [losesTie, h]

/-- The point with the earlier mark keeps its flag. -/
theorem losesTie_of_earlier {a b : PointRecord} (h : laterThan b.alertMark a.alertMark = true) (p q : PointIndex) :
    losesTie p a q b = false := by
  simp [losesTie, h, laterThan_asymm h]

/-- On equal marks the point with the higher index loses. -/
theorem losesTie_of_equal {a b : PointRecord} (h : a.alertMark = b.alertMark) (p q : PointIndex) :
    losesTie p a q b = decide (q < p) := by
  simp [losesTie, h, laterThan_self]

/-- In a table with one flag in each group, a flagged point is the only rival of another point of its group. -/
theorem rivalOf_set_eq_some {cfg : Configuration} {records : Records} {p q : PointIndex} (hone : OneFlagPerGroup cfg records)
    (r : PointRecord) (hu : isUsed cfg q = true) (hne : q ≠ p) (hg : cfg.points[q].group = cfg.points[p].group)
    (hf : records[q].firstOut = true) : rivalOf cfg (records.set p r) p = some q := by
  cases hr : rivalOf cfg (records.set p r) p with
  | none =>
    have hn := rivalOf_none hr q hne hu hg
    rw [set_get_other _ _ _ _ hne, hf] at hn
    cases hn
  | some x =>
    obtain ⟨hxp, hxu, hxg, hxf⟩ := rivalOf_some hr
    rw [set_get_other _ _ _ _ hxp] at hxf
    rw [hone x q hxu hu (hxg.trans hg.symm) hxf hf]

/-- A flagged record written beside a rival takes one of the two flags away again: its own if it loses the tie, else the rival's. -/
theorem writeRecord_of_rivalOf {cfg : Configuration} {records : Records} {p q : PointIndex} {r : PointRecord} (hr : r.firstOut = true)
    (hq : rivalOf cfg (records.set p r) p = some q) :
    writeRecord cfg records p r
      = if losesTie p r q records[q] then records.set p (unflag r) else (records.set p r).set q (unflag records[q]) := by
  obtain ⟨hne, -⟩ := rivalOf_some hq
  have written : (records.set p r)[p] = r := set_get_self _ _ _
  have kept : (records.set p r)[q] = records[q] := set_get_other _ _ _ _ hne
  simp only [writeRecord, settleTie, written, kept, hr, if_true, hq]
  split
  · simp
  · rfl

/-- The tie as it stands after the write, at both points and at every other. -/
theorem writeRecord_of_rival_get {cfg : Configuration} {records : Records} {p q : PointIndex} {r : PointRecord}
    (hone : OneFlagPerGroup cfg records) (hu : isUsed cfg q = true) (hne : q ≠ p) (hg : cfg.points[q].group = cfg.points[p].group)
    (hf : records[q].firstOut = true) (hr : r.firstOut = true) :
    (∀ x : PointIndex, x ≠ p → x ≠ q → (writeRecord cfg records p r)[x] = records[x])
      ∧ (losesTie p r q records[q] = true →
          (writeRecord cfg records p r)[p] = unflag r ∧ (writeRecord cfg records p r)[q] = records[q])
      ∧ (losesTie p r q records[q] = false →
          (writeRecord cfg records p r)[p] = r ∧ (writeRecord cfg records p r)[q] = unflag records[q]) := by
  rw [writeRecord_of_rivalOf hr (rivalOf_set_eq_some hone r hu hne hg hf)]
  cases losesTie p r q records[q] with
  | true =>
    refine ⟨fun x hxp _ => set_get_other _ _ _ _ hxp, fun _ => ⟨set_get_self _ _ _, set_get_other _ _ _ _ hne⟩, fun h => ?_⟩
    cases h
  | false =>
    refine ⟨fun x hxp hxq => ?_, fun h => ?_, fun _ => ⟨?_, set_get_self _ _ _⟩⟩
    · exact (set_get_other _ _ _ _ hxq).trans (set_get_other _ _ _ _ hxp)
    · cases h
    · exact (set_get_other _ _ _ _ hne.symm).trans (set_get_self _ _ _)

/-! ## Changes of the table keep one flag in each group (R24) -/

/-- A change of the table that sets no flag keeps at most one in each group. -/
theorem OneFlagPerGroup.of_no_new_flag {cfg : Configuration} {records records' : Records} (hone : OneFlagPerGroup cfg records)
    (h : ∀ p : PointIndex, records'[p].firstOut = true → records[p].firstOut = true) : OneFlagPerGroup cfg records' :=
  fun p q hp hq hg fp fq => hone p q hp hq hg (h p fp) (h q fq)

/-- A change that sets a flag at one point only, in whose group it leaves no other, keeps at most one in each group. -/
theorem OneFlagPerGroup.of_one_new_flag {cfg : Configuration} {records records' : Records} (hone : OneFlagPerGroup cfg records)
    (p : PointIndex) (h : ∀ q : PointIndex, q ≠ p → records'[q].firstOut = true → records[q].firstOut = true)
    (hp : ∀ q : PointIndex, q ≠ p → isUsed cfg q = true → cfg.points[q].group = cfg.points[p].group → records'[q].firstOut = false) :
    OneFlagPerGroup cfg records' := by
  intro x y hx hy hg fx fy
  by_cases ex : x = p
  · by_contra hne
    have := hp y (fun ey => hne (ex.trans ey.symm)) hy (ex ▸ hg.symm)
    rw [fy] at this
    cases this
  · by_cases ey : y = p
    · have := hp x ex hx (ey ▸ hg)
      rw [fx] at this
      cases this
    · exact hone x y hx hy hg (h x ex fx) (h y ey fy)

/-- LOST marking sets no flag (R21). -/
theorem lose_sets_no_flag {r : PointRecord} (h : (lose r).firstOut = true) : r.firstOut = true := by
  unfold lose at h
  split at h
  · exact h
  all_goals cases h

/-- ACK, SILENCE and RESET set no flag (R10 to R12). -/
theorem operate_sets_no_flag {op : Operation} {horizon : Word} {ringback : Bool} {r : PointRecord}
    (h : (operate op horizon ringback r).firstOut = true) : r.firstOut = true := by
  cases op with
  | ack =>
    by_cases hw : (horizon - r.alertMark).toNat < 32768
    · rw [operate, acknowledge_within hw] at h
      split at h
      · exact h
      · split at h
        · split at h
          · exact h
          · cases h
        · exact h
    · rwa [operate, acknowledge_beyond hw] at h
  | silence =>
    rw [operate, silence_eq] at h
    split at h <;> exact h
  | reset =>
    rw [operate, resetPoint_eq] at h
    split at h
    · cases h
    · exact h

theorem oneFlag_loseOthers {cfg : Configuration} {records : Records} (hone : OneFlagPerGroup cfg records) :
    OneFlagPerGroup cfg (loseOthers cfg records) := by
  refine hone.of_no_new_flag fun p h => ?_
  rw [loseOthers_get] at h
  split at h
  · exact lose_sets_no_flag h
  · exact h

theorem oneFlag_loseOwner {cfg : Configuration} {records : Records} (n : Station) (hone : OneFlagPerGroup cfg records) :
    OneFlagPerGroup cfg (loseOwner cfg n records) := by
  refine hone.of_no_new_flag fun p h => ?_
  rw [loseOwner_get] at h
  split at h
  · exact lose_sets_no_flag h
  · exact h

theorem oneFlag_operateGroups {cfg : Configuration} {records : Records} (op : Operation) (groups horizon : Word)
    (hone : OneFlagPerGroup cfg records) : OneFlagPerGroup cfg (operateGroups cfg op groups horizon records) := by
  refine hone.of_no_new_flag fun p h => ?_
  rw [operateGroups_get] at h
  split at h
  · exact operate_sets_no_flag h
  · exact h

/-- The table at acceptance holds no flag (R26). -/
theorem oneFlag_startingRecords (cfg : Configuration) : OneFlagPerGroup cfg (startingRecords cfg) := by
  intro p _ _ _ _ fp _
  rw [startingRecords_get] at fp
  split at fp <;> cases fp

/-- With no point in use there is nothing to flag (R197). -/
theorem oneFlag_blankConfiguration (records : Records) : OneFlagPerGroup blankConfiguration records := by
  intro p _ hp
  have : isUsed blankConfiguration p = false := by simp [isUsed, usedPoint, blankConfiguration, unusedPoint]
  rw [this] at hp
  cases hp

/-- What a write does to its point and its rival: without a flag, or without a rival, the record is written as it is; else one of the two flags
goes (R24). -/
theorem writeRecord_cases (cfg : Configuration) (records : Records) (p : PointIndex) (r : PointRecord) :
    (writeRecord cfg records p r = records.set p r
        ∧ (r.firstOut = false ∨ rivalOf cfg (records.set p r) p = none))
      ∨ writeRecord cfg records p r = records.set p (unflag r)
      ∨ ∃ q : PointIndex, rivalOf cfg (records.set p r) p = some q
          ∧ writeRecord cfg records p r = (records.set p r).set q (unflag records[q]) := by
  cases hf : r.firstOut with
  | false => exact .inl ⟨by simp [writeRecord, settleTie, hf], .inl rfl⟩
  | true =>
    cases hr : rivalOf cfg (records.set p r) p with
    | none => exact .inl ⟨by simp [writeRecord, settleTie, hr], .inr rfl⟩
    | some q =>
      rw [writeRecord_of_rivalOf hf hr]
      split
      · exact .inr (.inl rfl)
      · exact .inr (.inr ⟨q, rfl, rfl⟩)

theorem oneFlag_set_unflagged {cfg : Configuration} {records : Records} (p : PointIndex) (hone : OneFlagPerGroup cfg records)
    {r : PointRecord} (hr : r.firstOut = false) : OneFlagPerGroup cfg (records.set p r) := by
  refine hone.of_no_new_flag fun q h => ?_
  by_cases hq : q = p
  · rw [hq, set_get_self, hr] at h
    cases h
  · rwa [set_get_other _ _ _ _ hq] at h

/-- The tie rule keeps at most one flag in each group, whatever record is written (R24). -/
theorem oneFlag_writeRecord {cfg : Configuration} {records : Records} (p : PointIndex) (r : PointRecord)
    (hone : OneFlagPerGroup cfg records) : OneFlagPerGroup cfg (writeRecord cfg records p r) := by
  rcases writeRecord_cases cfg records p r with ⟨e, hf | hr⟩ | e | ⟨q, hr, e⟩
  · rw [e]
    exact oneFlag_set_unflagged p hone hf
  · rw [e]
    refine hone.of_one_new_flag p (fun q hq h => ?_) fun q hq hu hg => rivalOf_none hr q hq hu hg
    rwa [set_get_other _ _ _ _ hq] at h
  · rw [e]
    exact oneFlag_set_unflagged p hone rfl
  · obtain ⟨hqp, hqu, hqg, hqf⟩ := rivalOf_some hr
    rw [set_get_other _ _ _ _ hqp] at hqf
    have kept : ∀ x : PointIndex, x ≠ p → x ≠ q → ((records.set p r).set q (unflag records[q]))[x] = records[x] :=
      fun x hxp hxq => (set_get_other _ _ _ _ hxq).trans (set_get_other _ _ _ _ hxp)
    have gone : ((records.set p r).set q (unflag records[q]))[q].firstOut = false := by rw [set_get_self]; rfl
    rw [e]
    refine hone.of_one_new_flag p (fun x hxp h => ?_) fun x hxp hxu hxg => ?_
    · by_cases hxq : x = q
      · exact hxq ▸ hqf
      · rwa [kept x hxp hxq] at h
    · by_cases hxq : x = q
      · exact hxq ▸ gone
      · rw [kept x hxp hxq]
        by_contra hx
        exact hxq (hone x q hxu hqu (hxg.trans hqg.symm) (by simpa using hx) hqf)

theorem oneFlag_writeCarried {cfg : Configuration} {records : Records} (p : PointIndex) (w : WireRecord)
    (hone : OneFlagPerGroup cfg records) : OneFlagPerGroup cfg (writeCarried cfg records p w) := by
  unfold writeCarried
  split
  · exact hone
  · exact oneFlag_writeRecord p _ hone

/-- The records of a part are written one by one, the tie rule after each (R111). -/
theorem oneFlag_writePart {cfg : Configuration} {records : Records} (n : Station) (c : ReceiveContext) (ws : List WireRecord)
    (hone : OneFlagPerGroup cfg records) : OneFlagPerGroup cfg (writePart cfg n c ws records) := by
  unfold writePart
  induction (pointsFrom cfg (some n) c.window c.cursor).zip ws generalizing records with
  | nil => exact hone
  | cons pw _ ih => exact ih (oneFlag_writeCarried pw.1 pw.2 hone)

/-! ## What leaves the point table as it is

An operation or command that writes no record and takes no configuration keeps every invariant of the two. -/

/-- The configuration and the records are as they were. -/
def SameTable (s t : State) : Prop := t.cfg = s.cfg ∧ t.points = s.points

theorem SameTable.refl (s : State) : SameTable s s := ⟨rfl, rfl⟩

theorem SameTable.trans {s t u : State} (h : SameTable s t) (g : SameTable t u) : SameTable s u := ⟨g.1.trans h.1, g.2.trans h.2⟩

theorem SameTable.firstOutInv {s t : State} (h : SameTable s t) (hs : FirstOutInv s) : FirstOutInv t := by
  obtain ⟨hc, hp⟩ := h
  unfold FirstOutInv
  rw [hc, hp]
  exact hs

theorem sameTable_settle (s : State) : SameTable s (settle s) := by simp [SameTable]

theorem sameTable_reconcile (s : State) : SameTable s (reconcile s) := by simp [SameTable]

theorem sameTable_repairTest (s : State) : SameTable s (repairTest s) := by simp [SameTable]

theorem sameTable_settleMembership (s : State) : SameTable s (settleMembership s) := by simp [SameTable]

theorem sameTable_adoptCount (f : StationField) (d : Word) (count : Option Word) (s : State) : SameTable s (adoptCount f d count s) := by
  simp [SameTable]

theorem sameTable_frameSent (a : Attempt) (s : State) : SameTable s (frameSent a s) := by simp [SameTable, frameSent]

theorem sameTable_joinSent (s : State) : SameTable s (joinSent s) := by
  unfold joinSent
  split
  · split <;> simp [SameTable]
  · simp [SameTable]

theorem sameTable_enterHalted (s : State) : SameTable s (enterHalted s) := ⟨rfl, rfl⟩

theorem sameTable_answerJoin (f : StationField) (d : Word) (s : State) : SameTable s (answerJoin f d s) := by
  unfold answerJoin
  split <;> simp [SameTable]

theorem sameTable_takeRegion (w : Window) (s : State) : SameTable s (takeRegion w s) := by
  unfold takeRegion
  split
  · split <;> simp [SameTable]
  · simp [SameTable]

theorem sameTable_lineDebounced (l : InputLine) (d : Debouncer Level) (s : State) : SameTable s (lineDebounced l d s) := by
  unfold lineDebounced
  split <;> simp [SameTable, setLineDebouncer]

theorem sameTable_sampleLine (l : InputLine) (c : Contact) (s : State) : SameTable s (sampleLine l c s) := by
  unfold sampleLine
  split
  · exact .refl s
  · split
    · simpa [SameTable] using sameTable_lineDebounced l _ (newMoment s)
    · exact .refl s

theorem sameTable_pressOperation (op : Operation) (s : State) : SameTable s (pressOperation op s) := by
  unfold pressOperation
  split <;> simp [SameTable]

theorem sameTable_lampTestHeld (s : State) : SameTable s (lampTestHeld s) := by
  unfold lampTestHeld
  split <;> simp [SameTable]

theorem sameTable_press (b : Button) (s : State) : SameTable s (press b s) := by
  cases b with
  | ack => simpa [SameTable, press] using sameTable_pressOperation .ack (raise classButton s)
  | silence => simpa [SameTable, press] using sameTable_pressOperation .silence (raise classButton s)
  | reset => simpa [SameTable, press] using sameTable_pressOperation .reset (raise classButton s)
  | test => simpa [SameTable, press] using sameTable_lampTestHeld (raise classButton s)

theorem sameTable_release (b : Button) (s : State) : SameTable s (release b s) := by
  cases b <;> simp [SameTable, release, lampTestReleased]

theorem sameTable_buttonDebounced (b : Button) (d : Debouncer ButtonLevel) (s : State) : SameTable s (buttonDebounced b d s) := by
  unfold buttonDebounced
  split
  · simp [SameTable, setButtonDebouncer]
  · split
    · simpa [SameTable, setButtonDebouncer] using sameTable_press b (setButtonDebouncer b d s)
    · simpa [SameTable, setButtonDebouncer] using sameTable_release b (setButtonDebouncer b d s)

theorem sameTable_sampleButton (b : Button) (c : Contact) (s : State) : SameTable s (sampleButton b c s) := by
  unfold sampleButton
  split
  · simpa [SameTable] using sameTable_buttonDebounced b _ (newMoment s)
  · exact .refl s

theorem sameTable_setButtonPin (b : Button) (pin : PinLevel) (s : State) : SameTable s (setButtonPin b pin s) := by
  cases b <;> exact .refl _

theorem sameTable_tick (s : State) : SameTable s (tick s) := ⟨rfl, rfl⟩

/-! ### Commands -/

theorem sameTable_execResetRelease {cause : ReleaseCause} {stn : Vector PinLevel 5} {rate : Vector PinLevel 2} {s t : State}
    (h : execResetRelease cause stn rate s = .next t) : SameTable s t := by
  unfold execResetRelease at h
  split at h
  · cases h; exact .refl s
  · split at h
    · cases h
      unfold released
      split <;> exact .refl s
    · cases h; exact .refl s

theorem sameTable_execImageReadComplete {mdi : List Bool} {s t : State} (h : execImageReadComplete mdi s = .next t) : SameTable s t := by
  unfold execImageReadComplete at h
  split at h <;> cases h <;> exact .refl s

theorem sameTable_execAttemptStart {s t : State} (h : execAttemptStart s = .next t) : SameTable s t := by
  unfold execAttemptStart at h
  split at h
  · cases h; exact .refl s
  · split at h <;> cases h <;> exact .refl s

theorem sameTable_execLostArbitration {s t : State} (h : execLostArbitration s = .next t) : SameTable s t := by
  unfold execLostArbitration at h
  split at h <;> cases h
  · exact .refl s
  · exact sameTable_repairTest (attemptOver s)

theorem sameTable_execListenTimerExpiry {s t : State} (h : execListenTimerExpiry s = .next t) : SameTable s t := by
  unfold execListenTimerExpiry at h
  split at h <;> cases h <;> simp [SameTable]

theorem sameTable_execSyncTimerExpiry {s t : State} (h : execSyncTimerExpiry s = .next t) : SameTable s t := by
  unfold execSyncTimerExpiry at h
  split at h <;> cases h <;> simp [SameTable]

theorem sameTable_execRepairTimerExpiry {s t : State} (h : execRepairTimerExpiry s = .next t) : SameTable s t := by
  unfold execRepairTimerExpiry at h
  split at h <;> cases h <;> simp [SameTable]

theorem sameTable_execT0PresenceExpiry {s t : State} (h : execT0PresenceExpiry s = .next t) : SameTable s t := by
  unfold execT0PresenceExpiry at h
  split at h <;> cases h <;> exact .refl s

theorem sameTable_execActivityTimerExpiry {timer : ActivityTimer} {s t : State} (h : execActivityTimerExpiry timer s = .next t) :
    SameTable s t := by
  unfold execActivityTimerExpiry at h
  split at h <;> cases h <;> exact .refl s

theorem sameTable_execLampTestTimeout {s t : State} (h : execLampTestTimeout s = .next t) : SameTable s t := by
  unfold execLampTestTimeout at h
  split at h <;> cases h <;> exact .refl s

theorem sameTable_execFieldInputChange {l : InputLine} {pin : PinLevel} {s t : State} (h : execFieldInputChange l pin s = .next t) :
    SameTable s t := by
  cases h
  exact sameTable_sampleLine l (contactRead pin) (setFieldPin l pin s)

theorem sameTable_execInputSettlingExpiry {l : InputLine} {s t : State} (h : execInputSettlingExpiry l s = .next t) : SameTable s t := by
  unfold execInputSettlingExpiry at h
  split at h <;> cases h
  · simpa [SameTable] using sameTable_lineDebounced l _ (newMoment s)
  · exact .refl s

theorem sameTable_execInputSettlingAbandoned {l : InputLine} {s t : State} (h : execInputSettlingAbandoned l s = .next t) :
    SameTable s t := by
  unfold execInputSettlingAbandoned at h
  split at h
  · split at h <;> cases h
    · exact sameTable_sampleLine l _ (setFieldPin l _ s)
    · exact .refl s
  · cases h; exact .refl s

theorem sameTable_execButtonInputChange {b : Button} {pin : PinLevel} {s t : State} (h : execButtonInputChange b pin s = .next t) :
    SameTable s t := by
  cases h
  exact (sameTable_setButtonPin b pin s).trans (sameTable_sampleButton b _ _)

theorem sameTable_execButtonSettlingExpiry {b : Button} {s t : State} (h : execButtonSettlingExpiry b s = .next t) : SameTable s t := by
  unfold execButtonSettlingExpiry at h
  split at h <;> cases h
  · simpa [SameTable] using sameTable_buttonDebounced b _ (newMoment s)
  · exact .refl s

theorem sameTable_execButtonSettlingAbandoned {b : Button} {s t : State} (h : execButtonSettlingAbandoned b s = .next t) :
    SameTable s t := by
  unfold execButtonSettlingAbandoned at h
  split at h
  · cases h; exact .refl s
  · split at h <;> cases h
    · exact (sameTable_setButtonPin b _ s).trans (sameTable_sampleButton b _ _)
    · exact .refl s

/-! ## What a frame's content does keeps one flag in each group (R24) -/

theorem firstOutInv_moveEntry {s : State} (n : Station) (e : MemberEntry) (hs : FirstOutInv s) : FirstOutInv (moveEntry n e s) := by
  unfold FirstOutInv
  rw [moveEntry_points]
  split
  · simpa using oneFlag_loseOwner n hs
  · simpa [FirstOutInv] using hs

theorem firstOutInv_hear {s : State} (f : StationField) (h : Heard) (o : DigestOutcome) (d : Option Word) (hs : FirstOutInv s) :
    FirstOutInv (hear f h o d s) := by
  unfold hear
  split
  · exact hs
  · split
    · exact hs
    · exact firstOutInv_moveEntry _ _ hs

theorem firstOutInv_enterListening {s : State} (r : JoinReason) (hs : FirstOutInv s) : FirstOutInv (enterListening r s) :=
  oneFlag_loseOthers hs

theorem firstOutInv_enterWithdrawn {s : State} (hs : FirstOutInv s) : FirstOutInv (enterWithdrawn s) := oneFlag_loseOthers hs

theorem firstOutInv_softRestart {s : State} (hs : FirstOutInv s) : FirstOutInv (softRestart s) := oneFlag_loseOthers hs

theorem firstOutInv_writePoint {s : State} (f : StationField) (p : PointIndex) (w : WireRecord) (d : Word) (hs : FirstOutInv s) :
    FirstOutInv (writePoint f p w d s) := by
  unfold writePoint
  split
  · exact hs
  · split
    · split
      · exact hs
      · simpa [FirstOutInv] using oneFlag_writeRecord p _ hs
    · exact hs

theorem firstOutInv_takePoint {s : State} (f : StationField) (p : PointIndex) (w : WireRecord) (d : Word) (hs : FirstOutInv s) :
    FirstOutInv (takePoint f p w d s) :=
  firstOutInv_writePoint f p w d (firstOutInv_hear f _ _ _ hs)

theorem firstOutInv_takeOperator {s : State} (f : StationField) (op : Operation) (groups horizon d : Word) (hs : FirstOutInv s) :
    FirstOutInv (takeOperator f op groups horizon d s) := by
  unfold takeOperator
  split
  · have heard : FirstOutInv (hear f .pointOrOperator .same (some d) s) := firstOutInv_hear f _ _ _ hs
    simpa [FirstOutInv] using oneFlag_operateGroups op groups horizon heard
  · exact firstOutInv_hear f _ _ _ hs

theorem firstOutInv_takeJoin {s : State} (f : StationField) (d : Word) (hs : FirstOutInv s) : FirstOutInv (takeJoin f d s) :=
  firstOutInv_hear f _ _ _ ((sameTable_answerJoin f d s).firstOutInv hs)

theorem firstOutInv_takeStart {s : State} (f : StationField) (w : Window) (total : Nat) (count : Option Word) (d : Word)
    (hs : FirstOutInv s) : FirstOutInv (takeStart f w total count d s) := by
  unfold takeStart
  split
  · exact hs
  · exact (sameTable_adoptCount f d count _).firstOutInv (firstOutInv_hear f _ _ _ hs)

theorem firstOutInv_followPart {s : State} (n : Station) (c : ReceiveContext) (ws : List WireRecord) (hs : FirstOutInv s) :
    FirstOutInv (followPart n c ws s) := oneFlag_writePart n c ws hs

theorem firstOutInv_takeData {s : State} (f : StationField) (part : Nat) (last : Bool) (ws : List WireRecord) (hs : FirstOutInv s) :
    FirstOutInv (takeData f part last ws s) := by
  unfold takeData
  split
  · exact hs
  · split
    · exact firstOutInv_hear f _ _ _ hs
    · split
      · exact firstOutInv_hear f _ _ _ (firstOutInv_followPart _ _ ws hs)
      · exact firstOutInv_hear f _ _ _ hs

theorem firstOutInv_takePresence {s : State} (f : StationField) (d : Word) (count : Option Word) (peer : LineState) (hs : FirstOutInv s) :
    FirstOutInv (takePresence f d count peer s) := by
  unfold takePresence
  refine (sameTable_adoptCount f d count _).firstOutInv (firstOutInv_hear f _ _ _ ?_)
  split <;> exact hs

theorem firstOutInv_answerQuery {s : State} (f : StationField) (q : Query) (hs : FirstOutInv s) : FirstOutInv (answerQuery f q s) := by
  cases q with
  | status _ | members _ _ =>
    simp only [answerQuery]
    split <;> exact hs
  | region _ w =>
    simp only [answerQuery]
    split
    · exact (sameTable_takeRegion w s).firstOutInv hs
    · exact hs
  | restart _ =>
    simp only [answerQuery]
    split
    · exact firstOutInv_softRestart hs
    · exact hs

theorem firstOutInv_takeQuery {s : State} (f : StationField) (q : Query) (hs : FirstOutInv s) : FirstOutInv (takeQuery f q s) :=
  firstOutInv_answerQuery f q (firstOutInv_hear f _ _ _ hs)

theorem firstOutInv_takeMalformed {s : State} (cls : FrameClass) (f : StationField) (hs : FirstOutInv s) :
    FirstOutInv (takeMalformed cls f s) := by
  cases cls with
  | unassigned => exact hs
  | snapshot =>
    simp only [takeMalformed]
    split
    · exact firstOutInv_hear f _ _ _ hs
    · exact hs
  | point | operator | join | presence | query | reply => exact firstOutInv_hear f _ _ _ hs

theorem firstOutInv_takeContent {s : State} (f : StationField) (content : FrameContent) (hs : FirstOutInv s) :
    FirstOutInv (takeContent f content s) := by
  cases content with
  | point p w d => exact firstOutInv_takePoint f p w d hs
  | operator op g h d => exact firstOutInv_takeOperator f op g h d hs
  | join d _ => exact firstOutInv_takeJoin f d hs
  | start w total count d => exact firstOutInv_takeStart f w total count d hs
  | data part last ws => exact firstOutInv_takeData f part last ws hs
  | presence d count peer => exact firstOutInv_takePresence f d count peer hs
  | query q => exact firstOutInv_takeQuery f q hs
  | reply _ _ _ => exact firstOutInv_hear f _ _ _ hs

theorem firstOutInv_takePayload {s : State} (cls : FrameClass) (f : StationField) (payload : List Byte) (hs : FirstOutInv s) :
    FirstOutInv (takePayload cls f payload s) := by
  unfold takePayload
  split
  · exact firstOutInv_takeMalformed cls f hs
  · exact firstOutInv_takeContent f _ hs

/-- The sender's own frame is taken as its peers take it, but for what it frees in its own queues (R41, R51). -/
theorem firstOutInv_takeOwn {s : State} (content : FrameContent) (hs : FirstOutInv s) : FirstOutInv (takeOwn content s) := by
  cases content with
  | point p w d =>
    exact (sameTable_reconcile _).firstOutInv (firstOutInv_takePoint (sentField s) p w d hs)
  | operator op g h d => exact firstOutInv_takeOperator (sentField s) op g h d hs
  | join _ _ => exact (sameTable_joinSent s).firstOutInv hs
  | start _ _ _ _ | data _ _ _ | presence _ _ _ | query _ | reply _ _ _ => exact hs

/-! ## Every command keeps one flag in each group (R24) -/

/-- What the line brings keeps the invariant if its effect does. -/
theorem firstOutInv_whenHeard {s : State} (gap : Nat) {effect : State → State} (hs : FirstOutInv s)
    (h : ∀ {u : State}, FirstOutInv u → FirstOutInv (effect u)) : FirstOutInv (whenHeard gap effect s) := by
  rcases whenHeard_cases gap effect s with ⟨-, e⟩ | ⟨-, e⟩ <;> rw [e]
  · exact h hs
  · exact hs

/-- The rows of received frames of classes 0 to 6: each takes its payload by the layout of its class. -/
theorem firstOutInv_received {s t : State} {heading : FrameHeading} {cls : FrameClass} {payload : List Byte} (hs : FirstOutInv s)
    (h : Host.Outcome.next (frameEnds heading (takePayload cls heading.sender payload) s)
      = (.next t : Host.Outcome State Fault Refusal)) : FirstOutInv t := by
  cases h
  refine firstOutInv_whenHeard heading.gap hs fun {u} hu => ?_
  split
  · exact (sameTable_settle _).firstOutInv hu
  · exact (sameTable_settleMembership _).firstOutInv (firstOutInv_takePayload cls heading.sender payload hu)

theorem firstOutInv_execHardwareReset {cause : ResetCause} {s t : State} (hs : FirstOutInv s) (h : execHardwareReset cause s = .next t) :
    FirstOutInv t := by
  cases cause with
  | supply millivolts =>
    simp only [execHardwareReset] at h
    split at h <;> cases h
    · exact oneFlag_blankConfiguration s.points
    · unfold supplyRisen
      split <;> exact hs
  | pin lowMicros =>
    simp only [execHardwareReset] at h
    split at h <;> cases h
    · exact oneFlag_blankConfiguration s.points
    · exact hs

theorem firstOutInv_acceptImage (cfg : Configuration) (s : State) : FirstOutInv (acceptImage cfg s) :=
  (sameTable_settle _).firstOutInv (oneFlag_loseOthers (oneFlag_startingRecords cfg))

theorem firstOutInv_execLoadChecksComplete {s t : State} (hs : FirstOutInv s) (h : execLoadChecksComplete s = .next t) :
    FirstOutInv t := by
  unfold execLoadChecksComplete at h
  split at h
  · split at h <;> cases h
    · exact oneFlag_blankConfiguration _
    · exact firstOutInv_acceptImage _ s
  · cases h; exact hs

theorem firstOutInv_afterFailure {s : State} (hs : FirstOutInv s) : FirstOutInv (afterFailure s) := by
  unfold afterFailure
  split
  · exact (sameTable_settle _).firstOutInv (firstOutInv_enterWithdrawn hs)
  · exact (sameTable_repairTest s).firstOutInv hs

theorem firstOutInv_execEchoMismatch {s t : State} (hs : FirstOutInv s) (h : execEchoMismatch s = .next t) : FirstOutInv t := by
  unfold execEchoMismatch at h
  split at h
  · cases h; exact hs
  · split at h <;> cases h
    · exact (sameTable_settle _).firstOutInv hs
    · exact firstOutInv_afterFailure hs

theorem firstOutInv_execAttemptVoided {s t : State} (hs : FirstOutInv s) (h : execAttemptVoided s = .next t) : FirstOutInv t := by
  unfold execAttemptVoided at h
  split at h <;> cases h
  · exact hs
  · exact firstOutInv_afterFailure hs

theorem firstOutInv_execOwnFrameSuccessfulEnd {s t : State} (hs : FirstOutInv s) (h : execOwnFrameSuccessfulEnd s = .next t) :
    FirstOutInv t := by
  unfold execOwnFrameSuccessfulEnd at h
  split at h <;> cases h
  · exact hs
  · exact ((sameTable_repairTest _).trans (sameTable_settle _)).firstOutInv
      (firstOutInv_takeOwn _ ((sameTable_frameSent _ s).firstOutInv hs))

theorem firstOutInv_execFaultyFrameReceived {faulty : FaultyFrame} {s t : State} (hs : FirstOutInv s)
    (h : execFaultyFrameReceived faulty s = .next t) : FirstOutInv t := by
  cases h
  exact firstOutInv_whenHeard faulty.gap hs fun hu => (sameTable_repairTest _).firstOutInv hu

theorem firstOutInv_execVoidSeen {s t : State} (hs : FirstOutInv s) (h : execVoidSeen s = .next t) : FirstOutInv t := by
  cases h
  exact firstOutInv_whenHeard 0 hs fun hu => (sameTable_repairTest _).firstOutInv hu

theorem firstOutInv_execUnassignedFrame (heading : FrameHeading) (payload : List Byte) {s t : State} (hs : FirstOutInv s)
    (h : execUnassignedFrame heading payload s = .next t) : FirstOutInv t := by
  cases h
  exact firstOutInv_whenHeard heading.gap hs fun hu => (sameTable_repairTest _).firstOutInv hu

theorem firstOutInv_execHoldOffExpiry {s t : State} (hs : FirstOutInv s) (h : execHoldOffExpiry s = .next t) : FirstOutInv t := by
  unfold execHoldOffExpiry at h
  split at h <;> cases h
  · exact (sameTable_settle _).firstOutInv (firstOutInv_enterListening _ hs)
  · exact hs

theorem firstOutInv_execAbsentTimeout {n : Station} {s t : State} (hs : FirstOutInv s) (h : execAbsentTimeout n s = .next t) :
    FirstOutInv t := by
  unfold execAbsentTimeout at h
  split at h <;> cases h
  · exact (sameTable_settleMembership _).firstOutInv (firstOutInv_moveEntry n _ hs)
  · exact hs

/-- Every command keeps at most one first_out in each group (R24). -/
theorem firstOutInv_exec {c : Instr} {s t : State} (hs : FirstOutInv s) (h : exec c s = .next t) : FirstOutInv t := by
  cases c with
  | hardwareReset _ => exact firstOutInv_execHardwareReset hs h
  | resetRelease _ _ _ => exact (sameTable_execResetRelease h).firstOutInv hs
  | imageReadComplete _ => exact (sameTable_execImageReadComplete h).firstOutInv hs
  | loadChecksComplete => exact firstOutInv_execLoadChecksComplete hs h
  | attemptStart => exact (sameTable_execAttemptStart h).firstOutInv hs
  | lostArbitration => exact (sameTable_execLostArbitration h).firstOutInv hs
  | echoMismatch => exact firstOutInv_execEchoMismatch hs h
  | attemptVoided => exact firstOutInv_execAttemptVoided hs h
  | ownFrameSuccessfulEnd => exact firstOutInv_execOwnFrameSuccessfulEnd hs h
  | faultyFrameReceived _ => exact firstOutInv_execFaultyFrameReceived hs h
  | voidSeen => exact firstOutInv_execVoidSeen hs h
  | pointFrame _ _ | operatorFrame _ _ | joinFrame _ _ | snapshotStart _ _ | snapshotData _ _ | presenceFrame _ _ | queryStatus _ _
  | queryMembers _ _ | queryRegion _ _ | queryRestart _ _ | replyFrame _ _ => exact firstOutInv_received hs h
  | unassignedFrame heading payload => exact firstOutInv_execUnassignedFrame heading payload hs h
  | listenTimerExpiry => exact (sameTable_execListenTimerExpiry h).firstOutInv hs
  | syncTimerExpiry => exact (sameTable_execSyncTimerExpiry h).firstOutInv hs
  | holdOffExpiry => exact firstOutInv_execHoldOffExpiry hs h
  | absentTimeout _ => exact firstOutInv_execAbsentTimeout hs h
  | repairTimerExpiry => exact (sameTable_execRepairTimerExpiry h).firstOutInv hs
  | t0PresenceExpiry => exact (sameTable_execT0PresenceExpiry h).firstOutInv hs
  | activityTimerExpiry _ => exact (sameTable_execActivityTimerExpiry h).firstOutInv hs
  | lampTestTimeout => exact (sameTable_execLampTestTimeout h).firstOutInv hs
  | fieldInputChange _ _ => exact (sameTable_execFieldInputChange h).firstOutInv hs
  | inputSettlingExpiry _ => exact (sameTable_execInputSettlingExpiry h).firstOutInv hs
  | buttonInputChange _ _ => exact (sameTable_execButtonInputChange h).firstOutInv hs
  | buttonSettlingExpiry _ => exact (sameTable_execButtonSettlingExpiry h).firstOutInv hs
  | inputSettlingAbandoned _ => exact (sameTable_execInputSettlingAbandoned h).firstOutInv hs
  | buttonSettlingAbandoned _ => exact (sameTable_execButtonSettlingAbandoned h).firstOutInv hs

/-- A step takes a command, or lets a millisecond pass, in which no record changes. -/
theorem firstOutInv_step {s t : State} (hs : FirstOutInv s) (h : step s = .next t) : FirstOutInv t := by
  unfold step at h
  split at h
  · cases h
    exact (sameTable_tick s).firstOutInv hs
  · next c rest _ =>
    have hrest : FirstOutInv (s.setPending rest) := hs
    exact firstOutInv_exec hrest h

/-- Settles O14: the invariant by `firstOutInv_step`; the tie by `writeRecord_of_rival_get` and the value of `losesTie` in each clause. -/
theorem oneFirstOutByTheTieRule : Obligations.OneFirstOutByTheTieRule := by
  refine ⟨fun _ _ => firstOutInv_step, fun cfg records p q r hone _ hu hne hg hf hr => ?_⟩
  obtain ⟨others, loses, keeps⟩ := writeRecord_of_rival_get hone hu hne hg hf hr
  refine ⟨others, fun h => loses (losesTie_of_later h p q), fun h => keeps (losesTie_of_earlier h p q), fun h hlt => loses ?_,
    fun h hlt => keeps ?_⟩
  · rw [losesTie_of_equal h, decide_eq_true hlt]
  · rw [losesTie_of_equal h, decide_eq_false hlt.asymm]

end Sys2Proof.Machine
end

section
/-! PROOFS. The configuration image byte by byte: where the bytes of the entries stand in it (R65), the condition of each of the ten checks
(R193 to R196), and that the loader passes exactly when all ten hold. -/

namespace Sys2Proof.Machine

open Sys2Proof

/-! ## The bytes of an entry (R65) -/

/-- Run `k` begins `k` runs in. -/
theorem getElem_chunks (size count : Nat) (bytes : List Byte) (k : Nat) (h : k < (chunks size count bytes).length) :
    (chunks size count bytes)[k] = (bytes.drop (size * k)).take size := by
  induction count generalizing bytes k with
  | zero => exact absurd h (Nat.not_lt_zero k)
  | succ n ih =>
    cases k with
    | zero => simp [chunks]
    | succ k => simp [chunks, ih, Nat.mul_succ, Nat.add_comm size]

/-- A byte within a run of the image is the image's byte at that place, past the image's end too. -/
theorem entryByte_run {size j : Nat} (hj : j < size) (img : List Byte) (start : Nat) :
    entryByte ((img.drop start).take size) j = imageByte img (start + j) := by
  simp [entryByte, imageByte, List.getD_eq_getElem?_getD, hj]

/-- Point i's entry stands at bytes 16 + 4i to 19 + 4i (R65). -/
theorem entryByte_pointEntries (img : List Byte) (i : PointIndex) {j : Nat} (hj : j < 4) :
    entryByte (pointEntries img)[i] j = imageByte img (16 + j + 4 * i.val) := by
  have hrun : (pointEntries img)[i] = (img.drop (16 + 4 * i.val)).take 4 := by
    simp [pointEntries, getElem_chunks]
  rw [hrun, entryByte_run hj, Nat.add_right_comm]

/-- The entry of station n + 1 stands at bytes 1040 + 6n to 1045 + 6n (R65). -/
theorem entryByte_stationEntries (img : List Byte) (n : Station) {j : Nat} (hj : j < 6) :
    entryByte (stationEntries img)[n] j = imageByte img (1040 + j + 6 * n.val) := by
  have hrun : (stationEntries img)[n] = (img.drop (1040 + 6 * n.val)).take 6 := by
    simp [stationEntries, getElem_chunks]
  rw [hrun, entryByte_run hj, Nat.add_right_comm]

/-- A point's owner byte (R66). -/
theorem ownerByte_pointEntries (img : List Byte) (i : PointIndex) :
    ownerByte (pointEntries img)[i] = (imageByte img (16 + 4 * i.val)).toNat :=
  congrArg BitVec.toNat (entryByte_pointEntries img i (by decide))

/-- A point's input line field (R66). -/
theorem lineField_pointEntries (img : List Byte) (i : PointIndex) :
    lineField (pointEntries img)[i] = (imageByte img (18 + 4 * i.val)).extractLsb' 0 5 :=
  congrArg (BitVec.extractLsb' 0 5) (entryByte_pointEntries img i (by decide))

/-- A point's debounce byte (R66). -/
theorem entryByte_three_pointEntries (img : List Byte) (i : PointIndex) :
    entryByte (pointEntries img)[i] 3 = imageByte img (19 + 4 * i.val) :=
  entryByte_pointEntries img i (by decide)

/-! ## Tables as lists -/

/-- A table's entries in the order of its indices. -/
theorem toList_eq_map_finRange {α : Type} {n : Nat} (a : Vector α n) : a.toList = (List.finRange n).map fun i => a[i] := by
  apply List.ext_getElem <;> simp

/-- A test passes on all of a table's entries exactly when it passes at every index. -/
theorem all_toList_iff {α : Type} {n : Nat} (a : Vector α n) (test : α → Bool) :
    a.toList.all test = true ↔ ∀ i : Fin n, test a[i] = true := by
  simp [toList_eq_map_finRange a]

/-- A number of 1 to 30 names a station, and no other does (R70). -/
theorem isSome_stationOfNumber (n : Nat) : (stationOfNumber n).isSome = true ↔ 1 ≤ n ∧ n ≤ 30 := by
  unfold stationOfNumber
  split
  case isTrue h => exact iff_of_true rfl h
  case isFalse h => exact iff_of_false Bool.false_ne_true h

/-- The used points of an image, in index order (R194). -/
def usedPoints (img : List Byte) : List PointIndex :=
  allPoints.filter fun i => (stationOfNumber (ownerByte (pointEntries img)[i])).isSome

/-- The used entries are those of the used points. -/
theorem usedEntries_eq_map (img : List Byte) : usedEntries img = (usedPoints img).map fun i => (pointEntries img)[i] := by
  simp only [usedEntries, usedPoints, allPoints, toList_eq_map_finRange (pointEntries img), List.filter_map, Function.comp_def]

theorem nodup_usedPoints (img : List Byte) : (usedPoints img).Nodup := (List.nodup_finRange 256).filter _

/-- A used point's owner byte is 1 to 30 (R194). -/
theorem mem_usedPoints (img : List Byte) (i : PointIndex) :
    i ∈ usedPoints img ↔ 1 ≤ (imageByte img (16 + 4 * i.val)).toNat ∧ (imageByte img (16 + 4 * i.val)).toNat ≤ 30 := by
  simp only [usedPoints, allPoints, List.mem_filter, List.mem_finRange, true_and, isSome_stationOfNumber, ownerByte_pointEntries]

/-- Where no owner byte is above 30, the used points are those with an owner byte other than 0 (R194). -/
theorem mem_usedPoints_of_owners {img : List Byte} (howners : ∀ i : PointIndex, (imageByte img (16 + 4 * i.val)).toNat ≤ 30)
    (i : PointIndex) : i ∈ usedPoints img ↔ imageByte img (16 + 4 * i.val) ≠ 0 := by
  have hzero : (imageByte img (16 + 4 * i.val)).toNat = 0 ↔ imageByte img (16 + 4 * i.val) = 0 := (BitVec.toNat_eq (y := 0#8)).symm
  rw [mem_usedPoints, Nat.one_le_iff_ne_zero, Ne, hzero, and_iff_left (howners i)]

/-! ## The condition of each check (R193) -/

theorem markerCheck_iff (img : List Byte) : markerCheck img = true ↔ imageByte img 0 = 0x47 ∧ imageByte img 1 = 0x38 := by
  simp only [markerCheck, Bool.and_eq_true, beq_iff_eq]

theorem versionCheck_iff (img : List Byte) : versionCheck img = true ↔ imageByte img 2 = 1 := by
  simp only [versionCheck, beq_iff_eq]

theorem bodyCheck_iff (result : Word) (img : List Byte) :
    bodyCheck result img = true ↔ result = joinBytes (imageByte img 1220) (imageByte img 1221) := by
  simp only [bodyCheck, imageWord, beq_iff_eq]

theorem presenceCheck_iff (img : List Byte) :
    presenceCheck img = true ↔ 2 ≤ (imageByte img 3).toNat ∧ (imageByte img 3).toNat ≤ 40 := by
  simp only [presenceCheck, Bool.and_eq_true, decide_eq_true_eq]

theorem ownersCheck_iff (img : List Byte) :
    ownersCheck img = true ↔ ∀ i : PointIndex, (imageByte img (16 + 4 * i.val)).toNat ≤ 30 := by
  simp only [ownersCheck, all_toList_iff, decide_eq_true_eq, ownerByte_pointEntries]

/-- Check 6 compares owner and input line of any two used points. -/
theorem ownerLinesCheck_iff (img : List Byte) :
    ownerLinesCheck img = true ↔
      ∀ i ∈ usedPoints img, ∀ j ∈ usedPoints img, imageByte img (16 + 4 * i.val) = imageByte img (16 + 4 * j.val) →
        (imageByte img (18 + 4 * i.val)).extractLsb' 0 5 = (imageByte img (18 + 4 * j.val)).extractLsb' 0 5 → i = j := by
  simp only [ownerLinesCheck, decide_eq_true_eq, usedEntries_eq_map, List.map_map, List.nodup_map_iff_inj_on (nodup_usedPoints img),
    Function.comp_apply, Prod.mk.injEq, and_imp, ownerByte_pointEntries, lineField_pointEntries, BitVec.toNat_inj]

theorem debounceCheck_iff (img : List Byte) :
    debounceCheck img = true ↔ ∀ i ∈ usedPoints img, (imageByte img (19 + 4 * i.val)).toNat ≤ 25 := by
  simp only [debounceCheck, usedEntries_eq_map, List.all_map, List.all_eq_true, Function.comp_apply, decide_eq_true_eq,
    entryByte_three_pointEntries]

theorem stationTableCheck_iff (img : List Byte) :
    stationTableCheck img = true ↔ ∀ n : Station,
      (imageByte img (1042 + 6 * n.val)).toNat ≤ 15 ∧ (imageByte img (1043 + 6 * n.val)).toNat ≤ 15
        ∧ 1 ≤ (imageByte img (1044 + 6 * n.val)).toNat ∧ (imageByte img (1044 + 6 * n.val)).toNat ≤ 8
        ∧ 1 ≤ (imageByte img (1045 + 6 * n.val)).toNat ∧ (imageByte img (1045 + 6 * n.val)).toNat ≤ 8 := by
  simp only [stationTableCheck, all_toList_iff, Bool.and_eq_true, decide_eq_true_eq, and_assoc]
  refine forall_congr' fun n => ?_
  rw [entryByte_stationEntries img n (j := 2) (by decide), entryByte_stationEntries img n (j := 3) (by decide),
    entryByte_stationEntries img n (j := 4) (by decide), entryByte_stationEntries img n (j := 5) (by decide)]

theorem reloadsCheck_iff (img : List Byte) :
    reloadsCheck img = true ↔ (joinBytes (imageByte img 4) (imageByte img 5)).toNat ≤ 3600
      ∧ (joinBytes (imageByte img 6) (imageByte img 7)).toNat ≤ 3600 ∧ (joinBytes (imageByte img 8) (imageByte img 9)).toNat ≤ 3600 := by
  simp only [reloadsCheck, Bool.and_eq_true, decide_eq_true_eq, and_assoc]
  rfl

theorem strapsCheck_iff (straps : Straps) :
    strapsCheck straps = true ↔ 1 ≤ straps.stn.toNat ∧ straps.stn.toNat ≤ 30 ∧ straps.rate.toNat ≠ 3 := by
  have hrate : straps.rate = 3 ↔ straps.rate.toNat = 3 := BitVec.toNat_eq
  simp only [strapsCheck, stationOfField, Bool.and_eq_true, isSome_stationOfNumber, bne_iff_ne, Ne, hrate, and_assoc]

/-- Check 6 in an image that passes check 5: two points of one owner other than 0 have different input lines (R194). -/
theorem ownerLinesCheck_iff_of_owners {img : List Byte} (howners : ∀ i : PointIndex, (imageByte img (16 + 4 * i.val)).toNat ≤ 30) :
    ownerLinesCheck img = true ↔
      ∀ i j : PointIndex, i ≠ j → imageByte img (16 + 4 * i.val) = imageByte img (16 + 4 * j.val) →
        imageByte img (16 + 4 * i.val) ≠ 0 →
        (imageByte img (18 + 4 * i.val)).extractLsb' 0 5 ≠ (imageByte img (18 + 4 * j.val)).extractLsb' 0 5 := by
  simp only [ownerLinesCheck_iff, mem_usedPoints_of_owners howners]
  constructor
  · intro h i j hne howner hi hline
    exact hne (h i hi j (howner ▸ hi) howner hline)
  · intro h i hi j _ howner hline
    by_contra hne
    exact h i j hne howner hi hline

/-- Check 7 in an image that passes check 5. -/
theorem debounceCheck_iff_of_owners {img : List Byte} (howners : ∀ i : PointIndex, (imageByte img (16 + 4 * i.val)).toNat ≤ 30) :
    debounceCheck img = true ↔
      ∀ i : PointIndex, imageByte img (16 + 4 * i.val) ≠ 0 → (imageByte img (19 + 4 * i.val)).toNat ≤ 25 := by
  simp only [debounceCheck_iff, mem_usedPoints_of_owners howners]

/-! ## The ten together (R192) -/

/-- A check that passes leaves the answer to those after it; one that fails answers its number. -/
theorem failedCheck_eq_none (check : Bool) (number : Nat) (later : Option Nat) :
    (if !check then some number else later) = none ↔ check = true ∧ later = none := by
  cases check <;> simp

/-- No check is the first to fail exactly when all ten pass. -/
theorem firstFailedCheck_eq_none (result : Word) (img : List Byte) (straps : Straps) :
    firstFailedCheck result img straps = none ↔
      markerCheck img = true ∧ versionCheck img = true ∧ bodyCheck result img = true ∧ presenceCheck img = true
        ∧ ownersCheck img = true ∧ ownerLinesCheck img = true ∧ debounceCheck img = true ∧ stationTableCheck img = true
        ∧ reloadsCheck img = true ∧ strapsCheck straps = true := by
  simp only [firstFailedCheck, failedCheck_eq_none, and_true]

/-- Settles O6: `firstFailedCheck_eq_none` with the condition of each check; checks 6 and 7 take their used points from check 5. -/
theorem tenChecksPassAsTheirTableStates : Obligations.TenChecksPassAsTheirTableStates := by
  intro img result straps _
  rw [firstFailedCheck_eq_none, markerCheck_iff, versionCheck_iff, bodyCheck_iff, presenceCheck_iff, ownersCheck_iff,
    stationTableCheck_iff, reloadsCheck_iff, strapsCheck_iff]
  simp only [and_assoc]
  refine and_congr_right fun _ => and_congr_right fun _ => and_congr_right fun _ => and_congr_right fun _ => and_congr_right fun _ =>
    and_congr_right fun _ => and_congr_right fun howners => ?_
  rw [ownerLinesCheck_iff_of_owners howners, debounceCheck_iff_of_owners howners]

end Sys2Proof.Machine
end

section
/-! PROOFS. The payloads (chapter 3): every content reads back from the bytes built for it, the bytes are those of the layouts, and a payload is
malformed exactly where the table of R63 says so. -/

namespace Sys2Proof.Machine

open Sys2Proof

/-! ## Bytes of the fields -/

theorem highByte_eq (x : Word) : highByte x = BitVec.ofNat 8 (x.toNat / 256) := by
  apply BitVec.eq_of_toNat_eq
  simp [highByte, Nat.shiftRight_eq_div_pow]

theorem lowByte_eq (x : Word) : lowByte x = BitVec.ofNat 8 x.toNat := by
  apply BitVec.eq_of_toNat_eq
  simp [lowByte]

theorem wordBytes_eq (x : Word) : wordBytes x = [BitVec.ofNat 8 (x.toNat / 256), BitVec.ofNat 8 x.toNat] := by
  rw [wordBytes, highByte_eq, lowByte_eq]

/-- A record's first byte holds the code in its three high bits, then the two flags (R55). -/
theorem recordHead_eq (w : WireRecord) :
    recordHead w = BitVec.ofNat 8 (32 * w.code.toNat + 16 * w.firstOut.toNat + 8 * w.silenced.toNat) := by
  have h : ∀ (c : BitVec 3) (f q : Bool),
      c ++ (BitVec.ofBool f ++ (BitVec.ofBool q ++ (0 : BitVec 3))) = BitVec.ofNat 8 (32 * c.toNat + 16 * f.toNat + 8 * q.toNat) := by
    decide
  exact h w.code w.firstOut w.silenced

@[simp] theorem operationOfCode_codeOfOperation (op : Operation) : operationOfCode (codeOfOperation op) = some op := by
  cases op <;> rfl

@[simp] theorem reasonOfCode_codeOfReason (reason : JoinReason) : reasonOfCode (codeOfReason reason) = some reason := by
  cases reason <;> rfl

/-- The flags of a START, bit by bit (R59). -/
theorem startFlags_bits (last countValid : Bool) :
    (startFlags last countValid).getLsbD 0 = last ∧ (startFlags last countValid).getLsbD 1 = countValid := by
  cases last <;> cases countValid <;> decide

/-- The state byte, field by field (R60). -/
theorem stateByte_fields (countValid : Bool) (state : LineState) :
    (stateByte countValid state).extractLsb' 0 3 = codeOfLineState state ∧ (stateByte countValid state).getLsbD 7 = countValid := by
  cases countValid <;> cases state <;> decide

/-- The class stands in the three high bits of the arbitration field, the number in the five low bits (R34). -/
theorem arbitrationField_toNat (cls : FrameClass) (sender : StationField) :
    (arbitrationField cls sender).toNat = 32 * (classCode cls).toNat + sender.toNat := by
  rw [arbitrationField, BitVec.toNat_append, Nat.shiftLeft_eq, ← Nat.shiftLeft_eq, ← Nat.shiftLeft_add_eq_or_of_lt sender.isLt,
    Nat.shiftLeft_eq, Nat.mul_comm]

/-! ## Windows -/

/-- The bounds a byte can hold read back (R59, R61). -/
theorem readWindow_bytes {w : Window} (h : windowFits w = true) :
    readWindow (BitVec.ofNat 8 w.rowLow) (BitVec.ofNat 8 w.rowHigh) (BitVec.ofNat 8 w.columnLow) (BitVec.ofNat 8 w.columnHigh) = w := by
  simp only [windowFits, Bool.and_eq_true, decide_eq_true_eq] at h
  obtain ⟨⟨⟨rowLow, rowHigh⟩, columnLow⟩, columnHigh⟩ := h
  simp [readWindow, Nat.mod_eq_of_lt, rowLow, rowHigh, columnLow, columnHigh]

/-- The window rule (00_scope.md). -/
theorem windowValid_iff (w : Window) :
    windowValid w = true ↔ w.rowLow ≤ w.rowHigh ∧ w.rowHigh ≤ 15 ∧ w.columnLow ≤ w.columnHigh ∧ w.columnHigh ≤ 15 := by
  simp only [windowValid, Bool.and_eq_true, decide_eq_true_eq, and_assoc]

theorem windowFits_of_valid {w : Window} (h : windowValid w = true) : windowFits w = true := by
  simp only [windowValid_iff, windowFits, Bool.and_eq_true, decide_eq_true_eq] at h ⊢
  omega

/-! ## Queries by their kind (R61) -/

/-- What a query's kind, target and remaining bytes come to (R61). -/
def readKind (code : Nat) (target : Fin 31) (rest : List Byte) : Option FrameContent :=
  if code = 1 then (if rest = [] then some (.query (.status target)) else none)
  else if code = 2 then
    match rest with
    | [half] => if half.toNat ≤ 1 then some (.query (.members target (half.toNat == 1))) else none
    | _ => none
  else if code = 3 then
    match rest with
    | [rl, rh, cl, ch] => some (.query (.region target (readWindow rl rh cl ch)))
    | _ => none
  else if code = 4 then (if rest = [] then some (.query (.restart target)) else none)
  else none

/-- A QUERY payload is read by its kind. -/
theorem readQuery_cons (k t : Byte) (rest : List Byte) :
    readQuery (k :: t :: rest) = (readTarget t).bind fun target => readKind k.toNat target rest := by
  delta readQuery
  dsimp only
  generalize k.toNat = code
  cases readTarget t with
  | none => rfl
  | some target =>
    rcases code with _ | _ | _ | _ | _ | code
    · rfl
    · cases rest <;> rfl
    · rcases rest with _ | ⟨half, _ | _⟩ <;> rfl
    · rcases rest with _ | ⟨_, _ | ⟨_, _ | ⟨_, _ | ⟨_, _ | _⟩⟩⟩⟩ <;> rfl
    · cases rest <;> rfl
    · rfl

theorem readTarget_byte (t : Fin 31) : readTarget (BitVec.ofNat 8 t.val) = some t := by
  revert t
  decide

/-- A query reads back (R61). -/
theorem readQuery_queryBytes {q : Query} (h : contentFits (.query q) = true) : readQuery (queryBytes q) = some (.query q) := by
  cases q with
  | status t => simp [queryBytes, readQuery_cons, readTarget_byte, readKind]
  | members t half => cases half <;> simp [queryBytes, readQuery_cons, readTarget_byte, readKind]
  | region t w =>
    have hw : windowFits w = true := h
    simp [queryBytes, windowBytes, readQuery_cons, readTarget_byte, readKind, readWindow_bytes hw]
  | restart t => simp [queryBytes, readQuery_cons, readTarget_byte, readKind]

/-! ## Reading back (R56 to R62) -/

theorem readStart_bytes {w : Window} {total : Nat} (hw : windowValid w = true) (ht : total ≤ 32) (count : Option Word) (d : Word) :
    readStart (startFlags (total == 0) count.isSome :: (windowBytes w ++ [BitVec.ofNat 8 total] ++ countBytes count ++ wordBytes d))
      = some (.start w total count d) := by
  obtain ⟨flagLast, flagCount⟩ := startFlags_bits (total == 0) count.isSome
  have hm : total % 256 = total := by omega
  cases count <;>
    simp_all [windowBytes, countBytes, wordBytes, readStart, readWindow_bytes (windowFits_of_valid hw)]
  all_goals omega

theorem length_flatMap_recordBytes (rs : List WireRecord) : (rs.flatMap recordBytes).length = 4 * rs.length := by
  induction rs with
  | nil => rfl
  | cons r rest ih => simp only [List.flatMap_cons, List.length_append, ih, recordBytes, List.length_cons, List.length_nil]; omega

theorem readSnapshot_data {part : Nat} {rs : List WireRecord} (h : contentFits (.data part last rs) = true) :
    readSnapshot (BitVec.ofNat 8 part :: startFlags last false :: rs.flatMap recordBytes) = some (.data part last rs) := by
  simp only [contentFits, Bool.and_eq_true, decide_eq_true_eq] at h
  obtain ⟨⟨⟨low, high⟩, some⟩, few⟩ := h
  have hpart : (BitVec.ofNat 8 part).toNat = part := by rw [BitVec.toNat_ofNat]; omega
  have hlength := length_flatMap_recordBytes rs
  rw [readSnapshot, hpart, if_neg (by omega), if_pos high, readData, if_pos (by omega), readRecords_flatMap,
    (startFlags_bits last false).1]
  rfl

/-- Every content that the layouts allow reads back from the payload built for it (R56 to R62). -/
theorem readPayload_buildPayload {content : FrameContent} (h : contentFits content = true) :
    readPayload (classOf content) (buildPayload content) = some content := by
  cases content with
  | point i r d => simp [classOf, readPayload, buildPayload, recordBytes, wordBytes, readPoint]
  | operator op g hz d => simp [classOf, readPayload, buildPayload, wordBytes, readOperator]
  | join d reason => simp [classOf, readPayload, buildPayload, wordBytes, readJoin]
  | start w total count d =>
    simp only [contentFits, Bool.and_eq_true, decide_eq_true_eq] at h
    exact readStart_bytes h.1 h.2 count d
  | data part last rs => exact readSnapshot_data h
  | presence d count state =>
    obtain ⟨hstate, hcount⟩ := stateByte_fields count.isSome state
    cases count <;> simp_all [classOf, readPayload, buildPayload, wordBytes, countBytes, readPresence]
  | query q => exact readQuery_queryBytes h
  | reply kind r body =>
    simp only [contentFits, Bool.or_eq_true, beq_iff_eq] at h
    cases kind <;> simp [classOf, readPayload, buildPayload, readReply, h, codeOfReplyKind]

/-- The START flags as a number: last counts 1, count valid 2 (R59). -/
theorem startFlags_eq (last countValid : Bool) :
    startFlags last countValid = BitVec.ofNat 8 ((if last = true then 1 else 0) + (if countValid = true then 2 else 0)) := by
  cases last <;> cases countValid <;> decide

/-- The state byte as a number: count valid counts 128, the line state its code (R60). -/
theorem stateByte_eq (countValid : Bool) (state : LineState) :
    stateByte countValid state = BitVec.ofNat 8 ((if countValid = true then 128 else 0) + (codeOfLineState state).toNat) := by
  cases countValid <;> cases state <;> decide

/-- Settles O59: `readPayload_buildPayload`, and each layout by the bytes of its fields. -/
theorem payloadsReadBack : Obligations.PayloadsReadBack := by
  refine ⟨fun _ => readPayload_buildPayload, fun w => ?_, wordBytes_eq, fun p w d => rfl, fun op g h d => ?_, fun d reason => ?_,
    fun w total count d => ?_, fun part last r1 r2 r3 => ?_, fun d count state => ?_, fun t half w => ⟨rfl, rfl, rfl, rfl⟩,
    fun requester body => ⟨rfl, rfl⟩, fun cls sender => ?_⟩
  · rw [recordBytes, recordHead_eq, highByte_eq, lowByte_eq]
  · cases op <;> rfl
  · cases reason <;> rfl
  · rw [buildPayload, startFlags_eq]
    simp [windowBytes, countBytes]
  · have hflags : startFlags last false = if last then 1 else 0 := by cases last <;> decide
    simp [buildPayload, hflags]
  · rw [buildPayload, stateByte_eq]
    cases state <;> simp [countBytes, codeOfLineState]
  · rw [arbitrationField_toNat]
    cases cls <;> rfl

/-! ## Malformed payloads (R63) -/

theorem operationOfCode_eq_none (b : Byte) : operationOfCode b = none ↔ b ≠ 1 ∧ b ≠ 2 ∧ b ≠ 3 := by
  revert b
  decide

theorem reasonOfCode_eq_none (b : Byte) : reasonOfCode b = none ↔ b ≠ 1 ∧ b ≠ 2 ∧ b ≠ 3 := by
  revert b
  decide

theorem lineStateOfCode_eq_none (b : Byte) : lineStateOfCode (b.extractLsb' 0 3) = none ↔ b.toNat % 8 = 7 := by
  revert b
  decide

theorem readPoint_eq_none (p : List Byte) : readPoint p = none ↔ p.length ≠ 7 := by
  rcases p with _ | ⟨_, _ | ⟨_, _ | ⟨_, _ | ⟨_, _ | ⟨_, _ | ⟨_, _ | ⟨_, _ | _⟩⟩⟩⟩⟩⟩⟩ <;> simp [readPoint]

theorem readOperator_eq_none (p : List Byte) :
    readOperator p = none ↔ p.length ≠ 7 ∨ (p.getD 0 0 ≠ 1 ∧ p.getD 0 0 ≠ 2 ∧ p.getD 0 0 ≠ 3) := by
  rcases p with _ | ⟨_, _ | ⟨_, _ | ⟨_, _ | ⟨_, _ | ⟨_, _ | ⟨_, _ | ⟨_, _ | _⟩⟩⟩⟩⟩⟩⟩ <;>
    simp [readOperator, operationOfCode_eq_none]

theorem readJoin_eq_none (p : List Byte) :
    readJoin p = none ↔ p.length ≠ 3 ∨ (p.getD 2 0 ≠ 1 ∧ p.getD 2 0 ≠ 2 ∧ p.getD 2 0 ≠ 3) := by
  rcases p with _ | ⟨_, _ | ⟨_, _ | ⟨_, _ | _⟩⟩⟩ <;> simp [readJoin, reasonOfCode_eq_none]

theorem readPresence_eq_none (p : List Byte) : readPresence p = none ↔ p.length ≠ 5 ∨ (p.getD 4 0).toNat % 8 = 7 := by
  rcases p with _ | ⟨_, _ | ⟨_, _ | ⟨_, _ | ⟨_, _ | ⟨_, _ | _⟩⟩⟩⟩⟩ <;> simp [readPresence, lineStateOfCode_eq_none]

/-- A START is malformed by its length, its window, its total or a last flag that does not fit the total (R59, R63). -/
theorem readStart_eq_none (rest : List Byte) :
    readStart rest = none ↔
      rest.length ≠ 10 ∨ (rest.getD 2 0).toNat < (rest.getD 1 0).toNat ∨ 15 < (rest.getD 2 0).toNat
        ∨ (rest.getD 4 0).toNat < (rest.getD 3 0).toNat ∨ 15 < (rest.getD 4 0).toNat ∨ 32 < (rest.getD 5 0).toNat
        ∨ ((rest.getD 0 0).getLsbD 0 = true ∧ rest.getD 5 0 ≠ 0) ∨ ((rest.getD 0 0).getLsbD 0 = false ∧ rest.getD 5 0 = 0) := by
  rcases rest with
    _ | ⟨flags, _ | ⟨rl, _ | ⟨rh, _ | ⟨cl, _ | ⟨ch, _ | ⟨total, _ | ⟨_, _ | ⟨_, _ | ⟨_, _ | ⟨_, _ | _⟩⟩⟩⟩⟩⟩⟩⟩⟩⟩
  case cons.cons.cons.cons.cons.cons.cons.cons.cons.cons.nil =>
    simp only [readStart, ite_eq_right_iff, reduceCtorEq, imp_false, Bool.and_eq_true, windowValid_iff, decide_eq_true_eq,
      beq_iff_eq, List.getD_cons_succ, List.getD_cons_zero, List.length_cons, List.length_nil]
    by_cases hzero : total = 0#8
    · have ht : total.toNat = 0 := by rw [hzero]; rfl
      cases flags.getLsbD 0 <;> simp [hzero, readWindow]
      omega
    · have ht : total.toNat ≠ 0 := fun h => hzero (BitVec.eq_of_toNat_eq h)
      cases flags.getLsbD 0 <;> simp [hzero, ht, readWindow]
      omega
  all_goals simp [readStart]

theorem readRecords_isSome {k : Nat} {body : List Byte} (h : body.length = 4 * k) : (readRecords body).isSome = true := by
  induction k generalizing body with
  | zero => rw [List.length_eq_zero_iff.1 (by omega : body.length = 0)]; rfl
  | succ k ih =>
    obtain ⟨b0, b1, b2, b3, rest, rfl⟩ : ∃ b0 b1 b2 b3 rest, body = b0 :: b1 :: b2 :: b3 :: rest := by
      rcases body with _ | ⟨_, _ | ⟨_, _ | ⟨_, _ | ⟨_, _⟩⟩⟩⟩
      case cons.cons.cons.cons => exact ⟨_, _, _, _, _, rfl⟩
      all_goals
        simp only [List.length_cons, List.length_nil] at h
        omega
    simp only [readRecords, Option.isSome_map]
    exact ih (by simp only [List.length_cons] at h; omega)

/-- A DATA part holds one, two or three records, and nothing else is asked of its bytes (R59, R63). -/
theorem readData_eq_none (part : Nat) (rest : List Byte) :
    readData part rest = none ↔ rest.length ≠ 5 ∧ rest.length ≠ 9 ∧ rest.length ≠ 13 := by
  cases rest with
  | nil => simp [readData]
  | cons flags body =>
    simp only [readData, List.length_cons]
    split
    · next h =>
      have hsome : (readRecords body).isSome = true := by
        rcases h with h | h | h
        · exact readRecords_isSome (k := 1) h
        · exact readRecords_isSome (k := 2) h
        · exact readRecords_isSome (k := 3) h
      rw [Option.map_eq_none_iff, ← Option.not_isSome_iff_eq_none, hsome]
      simp only [not_true_eq_false, false_iff]
      omega
    · simp only [true_iff]
      omega

theorem readSnapshot_eq_none (p : List Byte) :
    readSnapshot p = none ↔
      p.length = 0 ∨ 11 < (p.getD 0 0).toNat
        ∨ (p.getD 0 0 = 0 ∧
            (p.length ≠ 11 ∨ (p.getD 3 0).toNat < (p.getD 2 0).toNat ∨ 15 < (p.getD 3 0).toNat
              ∨ (p.getD 5 0).toNat < (p.getD 4 0).toNat ∨ 15 < (p.getD 5 0).toNat ∨ 32 < (p.getD 6 0).toNat
              ∨ ((p.getD 1 0).getLsbD 0 = true ∧ p.getD 6 0 ≠ 0) ∨ ((p.getD 1 0).getLsbD 0 = false ∧ p.getD 6 0 = 0)))
        ∨ (p.getD 0 0 ≠ 0 ∧ p.length ≠ 6 ∧ p.length ≠ 10 ∧ p.length ≠ 14) := by
  cases p with
  | nil => simp [readSnapshot]
  | cons part rest =>
    have e : readSnapshot (part :: rest)
      = if part.toNat = 0 then readStart rest else if part.toNat ≤ 11 then readData part.toNat rest else none := rfl
    simp only [List.getD_cons_succ, List.getD_cons_zero, List.length_cons]
    by_cases hzero : part = 0
    · have h0 : part.toNat = 0 := by rw [hzero]; rfl
      rw [e, if_pos h0, readStart_eq_none, h0]
      simp [hzero]
    · have h0 : part.toNat ≠ 0 := fun h => hzero (BitVec.eq_of_toNat_eq h)
      rw [e, if_neg h0]
      by_cases h11 : part.toNat ≤ 11
      · rw [if_pos h11, readData_eq_none]
        simp only [hzero, false_and, false_or, ne_eq, not_false_eq_true, true_and]
        omega
      · rw [if_neg h11]
        simp only [true_iff]
        omega

theorem readTarget_eq_none (b : Byte) : readTarget b = none ↔ 31 ≤ b.toNat := by
  unfold readTarget
  split <;> simp <;> omega

theorem readKind_eq_none (code : Nat) (target : Fin 31) (rest : List Byte) :
    readKind code target rest = none ↔
      code = 0 ∨ 5 ≤ code ∨ ((code = 1 ∨ code = 4) ∧ rest.length ≠ 0) ∨ (code = 2 ∧ rest.length ≠ 1) ∨ (code = 3 ∧ rest.length ≠ 4)
        ∨ (code = 2 ∧ 2 ≤ (rest.getD 0 0).toNat) := by
  rcases code with _ | _ | _ | _ | _ | code
  · simp [readKind]
  · cases rest <;> simp [readKind]
  · rcases rest with _ | ⟨half, _ | _⟩
    · simp [readKind]
    · simp only [readKind]
      simp
      omega
    · simp [readKind]
  · rcases rest with _ | ⟨_, _ | ⟨_, _ | ⟨_, _ | ⟨_, _ | _⟩⟩⟩⟩ <;> simp [readKind]
  · cases rest <;> simp [readKind]
  · simp [readKind]

theorem readQuery_eq_none (p : List Byte) :
    readQuery p = none ↔
      p.length = 0 ∨ p.getD 0 0 = 0 ∨ 5 ≤ (p.getD 0 0).toNat
        ∨ ((p.getD 0 0 = 1 ∨ p.getD 0 0 = 4) ∧ p.length ≠ 2) ∨ (p.getD 0 0 = 2 ∧ p.length ≠ 3) ∨ (p.getD 0 0 = 3 ∧ p.length ≠ 6)
        ∨ 31 ≤ (p.getD 1 0).toNat ∨ (p.getD 0 0 = 2 ∧ 2 ≤ (p.getD 2 0).toNat) := by
  rcases p with _ | ⟨k, _ | ⟨t, rest⟩⟩
  · simp [readQuery]
  · have hcodes : ∀ b : Byte, b = 0 ∨ 5 ≤ b.toNat ∨ b = 1 ∨ b = 4 ∨ b = 2 ∨ b = 3 := by decide
    have h := hcodes k
    have hnone : readQuery [k] = none := rfl
    simp only [hnone, List.getD_cons_succ, List.getD_cons_zero, List.length_cons, List.length_nil, true_iff]
    simp
    tauto
  · have hcode : ∀ j : Nat, j < 256 → (k = BitVec.ofNat 8 j ↔ k.toNat = j) := by
      intro j hj
      rw [BitVec.toNat_eq, BitVec.toNat_ofNat, Nat.mod_eq_of_lt hj]
    have h0 := hcode 0 (by decide)
    have h1 := hcode 1 (by decide)
    have h2 := hcode 2 (by decide)
    have h3 := hcode 3 (by decide)
    have h4 := hcode 4 (by decide)
    simp only [readQuery_cons, Option.bind_eq_none_iff, List.getD_cons_succ, List.getD_cons_zero, List.length_cons]
    by_cases ht : 31 ≤ t.toNat
    · simp [(readTarget_eq_none t).2 ht, ht]
    · obtain ⟨target, htarget⟩ := Option.ne_none_iff_exists'.1 (fun h => ht ((readTarget_eq_none t).1 h))
      simp only [htarget, Option.some.injEq, forall_eq', readKind_eq_none, ht, false_or]
      simp only [BitVec.ofNat_eq_ofNat] at h0 h1 h2 h3 h4 ⊢
      rw [h0, h1, h2, h3, h4]
      omega

theorem readReply_eq_none (p : List Byte) :
    readReply p = none ↔ (p.length ≠ 11 ∧ p.length ≠ 16) ∨ (p.getD 0 0 ≠ 1 ∧ p.getD 0 0 ≠ 2) := by
  rcases p with _ | ⟨k, _ | ⟨r, body⟩⟩
  · simp [readReply]
  · simp [readReply]
  · have e : readReply (k :: r :: body)
      = if body.length = 9 ∨ body.length = 14 then
          (match k.toNat with
            | 1 => some (.reply .status r body)
            | 2 => some (.reply .members r body)
            | _ => none)
        else none := rfl
    have h1 : k = 1 ↔ k.toNat = 1 := BitVec.toNat_eq
    have h2 : k = 2 ↔ k.toNat = 2 := BitVec.toNat_eq
    simp only [List.getD_cons_zero, List.length_cons, e, h1, h2, Ne]
    generalize k.toNat = code
    split
    · rcases code with _ | _ | _ | code <;> simp <;> omega
    · simp only [true_iff]
      omega

/-! ## The class of what is read -/

theorem classOf_readSnapshot {payload : List Byte} {content : FrameContent} (h : readSnapshot payload = some content) :
    classOf content = .snapshot := by
  unfold readSnapshot at h
  split at h
  · cases h
  · split at h
    · unfold readStart at h
      split at h
      · split at h <;> cases h
        rfl
      · cases h
    · split at h
      · unfold readData at h
        split at h
        · split at h
          · obtain ⟨_, -, rfl⟩ := Option.map_eq_some_iff.1 h
            rfl
          · cases h
        · cases h
      · cases h

theorem classOf_readKind {code : Nat} {target : Fin 31} {rest : List Byte} {content : FrameContent}
    (h : readKind code target rest = some content) : classOf content = .query := by
  unfold readKind at h
  split at h
  · split at h <;> cases h
    rfl
  · split at h
    · split at h
      · split at h <;> cases h
        rfl
      · cases h
    · split at h
      · split at h <;> cases h
        rfl
      · split at h
        · split at h <;> cases h
          rfl
        · cases h

theorem classOf_readQuery {payload : List Byte} {content : FrameContent} (h : readQuery payload = some content) :
    classOf content = .query := by
  rcases payload with _ | ⟨k, _ | ⟨t, rest⟩⟩
  · cases h
  · cases h
  · rw [readQuery_cons, Option.bind_eq_some_iff] at h
    obtain ⟨_, -, h⟩ := h
    exact classOf_readKind h

/-- What a class's layout reads is of that class (R56 to R62). -/
theorem classOf_readPayload {cls : FrameClass} {payload : List Byte} {content : FrameContent}
    (h : readPayload cls payload = some content) : classOf content = cls := by
  cases cls with
  | point =>
    simp only [readPayload] at h
    unfold readPoint at h
    split at h <;> cases h
    rfl
  | operator =>
    simp only [readPayload] at h
    unfold readOperator at h
    split at h
    · obtain ⟨_, -, rfl⟩ := Option.map_eq_some_iff.1 h
      rfl
    · cases h
  | join =>
    simp only [readPayload] at h
    unfold readJoin at h
    split at h
    · obtain ⟨_, -, rfl⟩ := Option.map_eq_some_iff.1 h
      rfl
    · cases h
  | snapshot =>
    simp only [readPayload] at h
    exact classOf_readSnapshot h
  | presence =>
    simp only [readPayload] at h
    unfold readPresence at h
    split at h
    · obtain ⟨_, -, rfl⟩ := Option.map_eq_some_iff.1 h
      rfl
    · cases h
  | query =>
    simp only [readPayload] at h
    exact classOf_readQuery h
  | reply =>
    simp only [readPayload] at h
    unfold readReply at h
    split at h
    · split at h
      · split at h <;> cases h <;> rfl
      · cases h
    · cases h
  | unassigned => cases h

end Sys2Proof.Machine
end

section
/-! PROOFS. What each command can do, said once (`Effect`, `exec_effect`), and what the taking of a frame leaves alone (`TakenFrame`); that every
command answers a next state, and the table of line states (section 5.1). -/

namespace Sys2Proof.Machine

open Sys2Proof

/-! ## What the taking of a frame leaves alone -/

/-- What a frame's content leaves alone at a station that takes it and is not restarted by it. -/
structure TakenFrame (s u : State) : Prop where
  loader : u.loader = s.loader
  hold : u.hold = s.hold
  pins : u.pins = s.pins
  cfg : u.cfg = s.cfg
  line : u.line = s.line
  scanner : u.scanner = s.scanner
  panel : u.panel = s.panel
  timers : u.timers = s.timers
  lamp : u.lamp = s.lamp
  pending : u.pending = s.pending
  lineState : u.seq.state = s.seq.state
  joinReason : u.seq.joinReason = s.seq.joinReason
  listenTimer : u.seq.listenTimer = s.seq.listenTimer
  syncTimer : u.seq.syncTimer = s.seq.syncTimer
  joinPending : u.seq.joinPending = s.seq.joinPending
  repairFlag : u.members.repairFlag = s.members.repairFlag
  repairTimer : u.members.repairTimer = s.members.repairTimer

theorem TakenFrame.refl (s : State) : TakenFrame s s := by constructor <;> rfl

theorem TakenFrame.trans {s t u : State} (h : TakenFrame s t) (g : TakenFrame t u) : TakenFrame s u where
  loader := g.loader.trans h.loader
  hold := g.hold.trans h.hold
  pins := g.pins.trans h.pins
  cfg := g.cfg.trans h.cfg
  line := g.line.trans h.line
  scanner := g.scanner.trans h.scanner
  panel := g.panel.trans h.panel
  timers := g.timers.trans h.timers
  lamp := g.lamp.trans h.lamp
  pending := g.pending.trans h.pending
  lineState := g.lineState.trans h.lineState
  joinReason := g.joinReason.trans h.joinReason
  listenTimer := g.listenTimer.trans h.listenTimer
  syncTimer := g.syncTimer.trans h.syncTimer
  joinPending := g.joinPending.trans h.joinPending
  repairFlag := g.repairFlag.trans h.repairFlag
  repairTimer := g.repairTimer.trans h.repairTimer

theorem takenFrame_setPoints (s : State) (x : Vector PointRecord 256) : TakenFrame s (s.setPoints x) := by constructor <;> rfl

theorem takenFrame_setTransfer (s : State) (x : TransferUnit) : TakenFrame s (s.setTransfer x) := by constructor <;> rfl

theorem takenFrame_setResponder (s : State) (x : Option ReplyRequest) : TakenFrame s (s.setResponder x) := by constructor <;> rfl

theorem takenFrame_raise (c : Byte) (s : State) : TakenFrame s (raise c s) := by constructor <;> rfl

theorem takenFrame_countPoint (s : State) : TakenFrame s (countPoint s) := by constructor <;> rfl

theorem takenFrame_countDisagreement (s : State) : TakenFrame s (countDisagreement s) := by constructor <;> rfl

theorem takenFrame_moveEntry (n : Station) (e : MemberEntry) (s : State) : TakenFrame s (moveEntry n e s) := by
  constructor <;> simp

theorem takenFrame_hear (f : StationField) (h : Heard) (o : DigestOutcome) (d : Option Word) (s : State) :
    TakenFrame s (hear f h o d s) := by
  unfold hear
  split
  · exact .refl s
  · split
    · exact .refl s
    · exact takenFrame_moveEntry _ _ s

theorem takenFrame_adoptCount (f : StationField) (d : Word) (count : Option Word) (s : State) : TakenFrame s (adoptCount f d count s) := by
  unfold adoptCount
  split
  · exact .refl s
  · split
    · constructor <;> rfl
    · exact .refl s

theorem takenFrame_writePoint (f : StationField) (p : PointIndex) (w : WireRecord) (d : Word) (s : State) :
    TakenFrame s (writePoint f p w d s) := by
  constructor <;> simp

theorem takenFrame_takePoint (f : StationField) (p : PointIndex) (w : WireRecord) (d : Word) (s : State) :
    TakenFrame s (takePoint f p w d s) :=
  (takenFrame_countPoint s).trans ((takenFrame_hear f _ _ _ _).trans (takenFrame_writePoint f p w d _))

theorem takenFrame_takeOperator (f : StationField) (op : Operation) (groups horizon d : Word) (s : State) :
    TakenFrame s (takeOperator f op groups horizon d s) := by
  unfold takeOperator
  split
  · exact ((takenFrame_hear f _ _ _ s).trans (takenFrame_setPoints _ _)).trans (takenFrame_raise _ _)
  · exact takenFrame_hear f _ _ _ s

theorem takenFrame_answerJoin (f : StationField) (d : Word) (s : State) : TakenFrame s (answerJoin f d s) := by
  unfold answerJoin
  split
  · exact takenFrame_setTransfer s _
  · exact .refl s

theorem takenFrame_takeJoin (f : StationField) (d : Word) (s : State) : TakenFrame s (takeJoin f d s) :=
  (takenFrame_answerJoin f d s).trans (takenFrame_hear f _ _ _ _)

theorem takenFrame_takeStart (f : StationField) (w : Window) (total : Nat) (count : Option Word) (d : Word) (s : State) :
    TakenFrame s (takeStart f w total count d s) := by
  unfold takeStart
  split
  · exact .refl s
  · exact ((takenFrame_setTransfer s _).trans (takenFrame_hear f _ _ _ _)).trans (takenFrame_adoptCount f d count _)

theorem takenFrame_followPart (n : Station) (c : ReceiveContext) (ws : List WireRecord) (s : State) :
    TakenFrame s (followPart n c ws s) :=
  (takenFrame_setPoints s _).trans (takenFrame_setTransfer _ _)

theorem takenFrame_takeData (f : StationField) (part : Nat) (last : Bool) (ws : List WireRecord) (s : State) :
    TakenFrame s (takeData f part last ws s) := by
  unfold takeData
  split
  · exact .refl s
  · split
    · exact (takenFrame_setTransfer s _).trans (takenFrame_hear f _ _ _ _)
    · split
      · exact (takenFrame_followPart _ _ ws s).trans (takenFrame_hear f _ _ _ _)
      · exact (takenFrame_setTransfer s _).trans (takenFrame_hear f _ _ _ _)

theorem takenFrame_takePresence (f : StationField) (d : Word) (count : Option Word) (peer : LineState) (s : State) :
    TakenFrame s (takePresence f d count peer s) := by
  unfold takePresence
  refine TakenFrame.trans ?_ ((takenFrame_hear f _ _ _ _).trans (takenFrame_adoptCount f d count _))
  split
  · exact takenFrame_countDisagreement s
  · exact .refl s

theorem takenFrame_takeRegion (w : Window) (s : State) : TakenFrame s (takeRegion w s) := by
  unfold takeRegion
  split
  · split <;> exact takenFrame_setTransfer s _
  · exact takenFrame_setTransfer s _

theorem takenFrame_hearOnly (f : StationField) (s : State) : TakenFrame s (hearOnly f s) := takenFrame_hear f _ _ _ s

theorem takenFrame_takeMalformed (cls : FrameClass) (f : StationField) (s : State) : TakenFrame s (takeMalformed cls f s) := by
  cases cls with
  | unassigned => exact .refl s
  | snapshot =>
    simp only [takeMalformed]
    split
    · exact (takenFrame_setTransfer s _).trans (takenFrame_hearOnly f _)
    · exact .refl s
  | point => exact (takenFrame_countPoint s).trans (takenFrame_hearOnly f _)
  | operator | join | presence | query | reply => exact takenFrame_hearOnly f s

/-- A query restarts the station that its RESTART names, and no other frame restarts one (R183). -/
theorem answerQuery_cases (f : StationField) (q : Query) (s : State) :
    (∃ t, q = .restart t ∧ targetsSelf s t = true ∧ answerQuery f q s = softRestart s) ∨ TakenFrame s (answerQuery f q s) := by
  cases q with
  | status _ | members _ _ =>
    refine .inr ?_
    simp only [answerQuery]
    split
    · exact takenFrame_setResponder s _
    · exact .refl s
  | region _ w =>
    refine .inr ?_
    simp only [answerQuery]
    split
    · exact takenFrame_takeRegion w s
    · exact .refl s
  | restart t =>
    simp only [answerQuery]
    split
    · next h => exact .inl ⟨t, rfl, h, rfl⟩
    · exact .inr (.refl s)

/-- A frame's content is taken, or it is a RESTART query for this station, which restarts it behind the hearing (R183). -/
theorem takeContent_cases (f : StationField) (content : FrameContent) (s : State) :
    (∃ t, content = .query (.restart t) ∧ targetsSelf s t = true ∧ takeContent f content s = softRestart (hearOnly f s))
      ∨ TakenFrame s (takeContent f content s) := by
  cases content with
  | point p w d => exact .inr (takenFrame_takePoint f p w d s)
  | operator op g h d => exact .inr (takenFrame_takeOperator f op g h d s)
  | join d _ => exact .inr (takenFrame_takeJoin f d s)
  | start w total count d => exact .inr (takenFrame_takeStart f w total count d s)
  | data part last ws => exact .inr (takenFrame_takeData f part last ws s)
  | presence d count peer => exact .inr (takenFrame_takePresence f d count peer s)
  | reply _ _ _ => exact .inr (takenFrame_hearOnly f s)
  | query q =>
    rcases answerQuery_cases f q (hearOnly f s) with ⟨t, rfl, ht, e⟩ | h
    · refine .inl ⟨t, rfl, ?_, e⟩
      simpa [targetsSelf, hearOnly] using ht
    · exact .inr ((takenFrame_hearOnly f s).trans h)

/-- A payload is taken, or it is that of a RESTART query for this station (R183). -/
theorem takePayload_cases (cls : FrameClass) (f : StationField) (payload : List Byte) (s : State) :
    (∃ t, readPayload cls payload = some (.query (.restart t)) ∧ targetsSelf s t = true
        ∧ takePayload cls f payload s = softRestart (hearOnly f s))
      ∨ TakenFrame s (takePayload cls f payload s) := by
  unfold takePayload
  split
  · exact .inr (takenFrame_takeMalformed cls f s)
  · next content h =>
    rcases takeContent_cases f content s with ⟨t, rfl, ht, e⟩ | g
    · exact .inl ⟨t, h, ht, e⟩
    · exact .inr g

@[simp] theorem hearOnly_keeps (f : StationField) (s : State) :
    (hearOnly f s).loader = s.loader ∧ (hearOnly f s).hold = s.hold ∧ (hearOnly f s).pins = s.pins ∧ (hearOnly f s).cfg = s.cfg
      ∧ (hearOnly f s).line = s.line ∧ (hearOnly f s).seq = s.seq ∧ (hearOnly f s).scanner = s.scanner
      ∧ (hearOnly f s).panel = s.panel ∧ (hearOnly f s).timers = s.timers ∧ (hearOnly f s).lamp = s.lamp
      ∧ (hearOnly f s).responder = s.responder ∧ (hearOnly f s).pending = s.pending := by
  simp [hearOnly]

@[simp] theorem softRestart_keeps (s : State) :
    (softRestart s).loader = s.loader ∧ (softRestart s).hold = s.hold ∧ (softRestart s).pins = s.pins ∧ (softRestart s).cfg = s.cfg
      ∧ (softRestart s).line = s.line ∧ (softRestart s).lamp = s.lamp ∧ (softRestart s).raised = s.raised
      ∧ (softRestart s).pending = s.pending := by
  simp [softRestart]

@[simp] theorem softRestart_lineState (s : State) : (softRestart s).seq.state = .listening := rfl

/-- A payload is taken at the blocks its class concerns: the load, the pins, the line, the lamp driver and the queue are not among them. -/
@[simp] theorem takePayload_keeps (cls : FrameClass) (f : StationField) (payload : List Byte) (s : State) :
    (takePayload cls f payload s).loader = s.loader ∧ (takePayload cls f payload s).hold = s.hold
      ∧ (takePayload cls f payload s).pins = s.pins ∧ (takePayload cls f payload s).cfg = s.cfg
      ∧ (takePayload cls f payload s).line = s.line ∧ (takePayload cls f payload s).lamp = s.lamp
      ∧ (takePayload cls f payload s).pending = s.pending := by
  rcases takePayload_cases cls f payload s with ⟨_, _, _, e⟩ | h
  · simp [e]
  · exact ⟨h.loader, h.hold, h.pins, h.cfg, h.line, h.lamp, h.pending⟩

/-! ## What the end of an own frame leaves alone -/

@[simp] theorem frameSent_keeps (a : Attempt) (s : State) :
    (frameSent a s).loader = s.loader ∧ (frameSent a s).hold = s.hold ∧ (frameSent a s).pins = s.pins ∧ (frameSent a s).cfg = s.cfg
      ∧ (frameSent a s).points = s.points ∧ (frameSent a s).seq = s.seq ∧ (frameSent a s).members = s.members
      ∧ (frameSent a s).transfer = s.transfer ∧ (frameSent a s).scanner = s.scanner ∧ (frameSent a s).panel = s.panel
      ∧ (frameSent a s).timers = s.timers ∧ (frameSent a s).lamp = s.lamp ∧ (frameSent a s).responder = s.responder
      ∧ (frameSent a s).pending = s.pending := by
  simp [frameSent]

/-- At the successful end the line is let go and both failure counts are 0 (R41). -/
@[simp] theorem frameSent_line (a : Attempt) (s : State) :
    (frameSent a s).line = { s.line with attempt := none, drive := .recessive, failures := 0, mismatches := 0 } := rfl

@[simp] theorem joinSent_keeps (s : State) :
    (joinSent s).loader = s.loader ∧ (joinSent s).hold = s.hold ∧ (joinSent s).pins = s.pins ∧ (joinSent s).cfg = s.cfg
      ∧ (joinSent s).points = s.points ∧ (joinSent s).line = s.line ∧ (joinSent s).members = s.members
      ∧ (joinSent s).panel = s.panel ∧ (joinSent s).timers = s.timers ∧ (joinSent s).lamp = s.lamp
      ∧ (joinSent s).responder = s.responder ∧ (joinSent s).raised = s.raised ∧ (joinSent s).pending = s.pending := by
  unfold joinSent
  split
  · split <;> simp
  · simp

@[simp] theorem takeOwn_keeps (content : FrameContent) (s : State) :
    (takeOwn content s).loader = s.loader ∧ (takeOwn content s).hold = s.hold ∧ (takeOwn content s).pins = s.pins
      ∧ (takeOwn content s).cfg = s.cfg ∧ (takeOwn content s).line = s.line ∧ (takeOwn content s).lamp = s.lamp
      ∧ (takeOwn content s).pending = s.pending := by
  cases content with
  | point p w d =>
    have h := takenFrame_takePoint (sentField s) p w d s
    simp [takeOwn, h.loader, h.hold, h.pins, h.cfg, h.line, h.lamp, h.pending]
  | operator op g hz d =>
    have h := takenFrame_takeOperator (sentField s) op g hz d s
    simp [takeOwn, h.loader, h.hold, h.pins, h.cfg, h.line, h.lamp, h.pending]
  | join _ _ | start _ _ _ _ | data _ _ _ | presence _ _ _ | query _ | reply _ _ _ => simp [takeOwn]

/-! ## What samples leave alone -/

@[simp] theorem setLineDebouncer_keeps (l : InputLine) (d : Debouncer Level) (s : State) :
    (setLineDebouncer l d s).loader = s.loader ∧ (setLineDebouncer l d s).hold = s.hold ∧ (setLineDebouncer l d s).pins = s.pins
      ∧ (setLineDebouncer l d s).cfg = s.cfg ∧ (setLineDebouncer l d s).points = s.points ∧ (setLineDebouncer l d s).line = s.line
      ∧ (setLineDebouncer l d s).seq = s.seq ∧ (setLineDebouncer l d s).members = s.members
      ∧ (setLineDebouncer l d s).transfer = s.transfer ∧ (setLineDebouncer l d s).panel = s.panel
      ∧ (setLineDebouncer l d s).timers = s.timers ∧ (setLineDebouncer l d s).lamp = s.lamp
      ∧ (setLineDebouncer l d s).responder = s.responder ∧ (setLineDebouncer l d s).raised = s.raised
      ∧ (setLineDebouncer l d s).pending = s.pending := by
  simp [setLineDebouncer]

@[simp] theorem lineDebounced_keeps (l : InputLine) (d : Debouncer Level) (s : State) :
    (lineDebounced l d s).loader = s.loader ∧ (lineDebounced l d s).hold = s.hold ∧ (lineDebounced l d s).pins = s.pins
      ∧ (lineDebounced l d s).cfg = s.cfg ∧ (lineDebounced l d s).points = s.points ∧ (lineDebounced l d s).line = s.line
      ∧ (lineDebounced l d s).seq = s.seq ∧ (lineDebounced l d s).members = s.members
      ∧ (lineDebounced l d s).transfer = s.transfer ∧ (lineDebounced l d s).panel = s.panel
      ∧ (lineDebounced l d s).timers = s.timers ∧ (lineDebounced l d s).lamp = s.lamp
      ∧ (lineDebounced l d s).responder = s.responder ∧ (lineDebounced l d s).pending = s.pending := by
  unfold lineDebounced
  split <;> simp

@[simp] theorem setFieldPin_keeps (l : InputLine) (pin : PinLevel) (s : State) :
    (setFieldPin l pin s).loader = s.loader ∧ (setFieldPin l pin s).hold = s.hold ∧ (setFieldPin l pin s).cfg = s.cfg
      ∧ (setFieldPin l pin s).points = s.points ∧ (setFieldPin l pin s).line = s.line ∧ (setFieldPin l pin s).seq = s.seq
      ∧ (setFieldPin l pin s).members = s.members ∧ (setFieldPin l pin s).transfer = s.transfer
      ∧ (setFieldPin l pin s).scanner = s.scanner ∧ (setFieldPin l pin s).panel = s.panel ∧ (setFieldPin l pin s).timers = s.timers
      ∧ (setFieldPin l pin s).lamp = s.lamp ∧ (setFieldPin l pin s).responder = s.responder ∧ (setFieldPin l pin s).raised = s.raised
      ∧ (setFieldPin l pin s).pending = s.pending := by
  simp [setFieldPin]

@[simp] theorem setButtonPin_keeps (b : Button) (pin : PinLevel) (s : State) :
    (setButtonPin b pin s).loader = s.loader ∧ (setButtonPin b pin s).hold = s.hold ∧ (setButtonPin b pin s).cfg = s.cfg
      ∧ (setButtonPin b pin s).points = s.points ∧ (setButtonPin b pin s).line = s.line ∧ (setButtonPin b pin s).seq = s.seq
      ∧ (setButtonPin b pin s).members = s.members ∧ (setButtonPin b pin s).transfer = s.transfer
      ∧ (setButtonPin b pin s).scanner = s.scanner ∧ (setButtonPin b pin s).panel = s.panel ∧ (setButtonPin b pin s).timers = s.timers
      ∧ (setButtonPin b pin s).lamp = s.lamp ∧ (setButtonPin b pin s).responder = s.responder ∧ (setButtonPin b pin s).raised = s.raised
      ∧ (setButtonPin b pin s).pending = s.pending := by
  cases b <;> simp [setButtonPin]

@[simp] theorem pressOperation_keeps (op : Operation) (s : State) :
    (pressOperation op s).loader = s.loader ∧ (pressOperation op s).hold = s.hold ∧ (pressOperation op s).pins = s.pins
      ∧ (pressOperation op s).cfg = s.cfg ∧ (pressOperation op s).points = s.points ∧ (pressOperation op s).line = s.line
      ∧ (pressOperation op s).seq = s.seq ∧ (pressOperation op s).members = s.members ∧ (pressOperation op s).transfer = s.transfer
      ∧ (pressOperation op s).scanner = s.scanner ∧ (pressOperation op s).timers = s.timers ∧ (pressOperation op s).lamp = s.lamp
      ∧ (pressOperation op s).responder = s.responder ∧ (pressOperation op s).raised = s.raised
      ∧ (pressOperation op s).pending = s.pending := by
  unfold pressOperation
  split <;> simp

@[simp] theorem lampTestHeld_keeps (s : State) :
    (lampTestHeld s).loader = s.loader ∧ (lampTestHeld s).hold = s.hold ∧ (lampTestHeld s).pins = s.pins
      ∧ (lampTestHeld s).cfg = s.cfg ∧ (lampTestHeld s).points = s.points ∧ (lampTestHeld s).line = s.line
      ∧ (lampTestHeld s).seq = s.seq ∧ (lampTestHeld s).members = s.members ∧ (lampTestHeld s).transfer = s.transfer
      ∧ (lampTestHeld s).scanner = s.scanner ∧ (lampTestHeld s).panel = s.panel ∧ (lampTestHeld s).timers = s.timers
      ∧ (lampTestHeld s).responder = s.responder ∧ (lampTestHeld s).raised = s.raised
      ∧ (lampTestHeld s).pending = s.pending := by
  unfold lampTestHeld
  split <;> simp

@[simp] theorem buttonDebounced_keeps (b : Button) (d : Debouncer ButtonLevel) (s : State) :
    (buttonDebounced b d s).loader = s.loader ∧ (buttonDebounced b d s).hold = s.hold ∧ (buttonDebounced b d s).pins = s.pins
      ∧ (buttonDebounced b d s).cfg = s.cfg ∧ (buttonDebounced b d s).points = s.points ∧ (buttonDebounced b d s).line = s.line
      ∧ (buttonDebounced b d s).seq = s.seq ∧ (buttonDebounced b d s).members = s.members
      ∧ (buttonDebounced b d s).transfer = s.transfer ∧ (buttonDebounced b d s).scanner = s.scanner
      ∧ (buttonDebounced b d s).timers = s.timers ∧ (buttonDebounced b d s).responder = s.responder
      ∧ (buttonDebounced b d s).pending = s.pending := by
  unfold buttonDebounced
  split
  · simp [setButtonDebouncer]
  · split
    · cases b <;> simp [press, setButtonDebouncer]
    · cases b <;> simp [release, setButtonDebouncer, lampTestReleased]

/-! ## What each command can do -/

/-- The class, heading and payload of a received frame of classes 0 to 6. -/
def deliveredFrame : Instr → Option (FrameClass × FrameHeading × List Byte)
  | .pointFrame heading payload => some (.point, heading, payload)
  | .operatorFrame heading payload => some (.operator, heading, payload)
  | .joinFrame heading payload => some (.join, heading, payload)
  | .snapshotStart heading payload => some (.snapshot, heading, payload)
  | .snapshotData heading payload => some (.snapshot, heading, payload)
  | .presenceFrame heading payload => some (.presence, heading, payload)
  | .queryStatus heading payload => some (.query, heading, payload)
  | .queryMembers heading payload => some (.query, heading, payload)
  | .queryRegion heading payload => some (.query, heading, payload)
  | .queryRestart heading payload => some (.query, heading, payload)
  | .replyFrame heading payload => some (.reply, heading, payload)
  | _ => none

/-- A received frame of classes 0 to 6 is its end at this station, whatever row it came by. -/
theorem exec_deliveredFrame {c : Instr} {cls : FrameClass} {heading : FrameHeading} {payload : List Byte}
    (h : deliveredFrame c = some (cls, heading, payload)) (s : State) :
    exec c s = .next (frameEnds heading (takePayload cls heading.sender payload) s) := by
  unfold deliveredFrame at h
  split at h <;> cases h <;> rfl

theorem isDeliveredFrame_iff (c : Instr) : isDeliveredFrame c = (deliveredFrame c).isSome := by cases c <;> rfl

/-- A failed attempt that does not halt the station: the line is let go and the counts step (R42). -/
def failedAttempt (mismatches : Nat) (s : State) : State :=
  (attemptOver s).setLine { (attemptOver s).line with failures := s.line.failures + 1, mismatches := mismatches }

/-- What a command can do to a state, under what conditions: `exec_effect`. -/
inductive Effect (s : State) : Instr → State → Prop
  | nothing (c : Instr) : Effect s c s
  | reset (cause : ResetCause) (source : ResetSource) : Effect s (.hardwareReset cause) (takeHardwareReset source s)
  | supplyRose (cause : ResetCause) : Effect s (.hardwareReset cause) (supplyRisen s)
  | released (cause : ReleaseCause) (stn : Vector PinLevel 5) (rate : Vector PinLevel 2) (source : ResetSource)
      (held : s.loader.state = .held) :
      Effect s (.resetRelease cause stn rate) (Machine.released source (s.setPins { s.pins with stn := stn, rate := rate }))
  | imageRead (mdi : List Bool) (reading : s.loader.state = .reading) :
      Effect s (.imageReadComplete mdi)
        (s.setLoader { s.loader with state := .checking, image := clockedIn mdi, checkResult := imageCheck (clockedIn mdi) })
  | imageRefused (checking : s.loader.state = .checking) (off : s.seq.state = .off) : Effect s .loadChecksComplete (refuseImage s)
  | imageAccepted (cfg : Configuration) (checking : s.loader.state = .checking) (off : s.seq.state = .off) :
      Effect s .loadChecksComplete (acceptImage cfg s)
  | attemptStarted (a : Attempt) (free : s.line.attempt = none) (selected : selectAttempt s = some a) :
      Effect s .attemptStart (s.setLine { s.line with attempt := some a, drive := .frame, awaitsGap := false })
  | arbitrationLost (a : Attempt) (live : liveAttempt s = some a) : Effect s .lostArbitration (repairTest (attemptOver s))
  | mismatchHalts (a : Attempt) (live : liveAttempt s = some a) :
      Effect s .echoMismatch (settle (enterHalted (failedAttempt (s.line.mismatches + 1) s)))
  | attemptFailed (c : Instr) (a : Attempt) (mismatches : Nat) (live : liveAttempt s = some a)
      (cause : c = .echoMismatch ∧ mismatches = s.line.mismatches + 1 ∨ c = .attemptVoided ∧ mismatches = 0)
      (counted : mismatches < mismatchLimit) :
      Effect s c (afterFailure (failedAttempt mismatches s))
  | ownFrame (a : Attempt) (live : liveAttempt s = some a) :
      Effect s .ownFrameSuccessfulEnd (settle (repairTest (takeOwn a.content (frameSent a s))))
  | frameFaulty (faulty : FaultyFrame) (heard : hears faulty.gap s = true) :
      Effect s (.faultyFrameReceived faulty)
        (repairTest
          ((listeningFrame (gapSeen s)).setLine
            { (listeningFrame (gapSeen s)).line with
              drive := signalOf faulty.fault, voidsDriven := stepCounter s.line.voidsDriven }))
  | frameDiscarded (c : Instr) (gap : Nat) (heard : hears gap s = true) : Effect s c (repairTest (listeningFrame (gapSeen s)))
  | frameHalts (c : Instr) (cls : FrameClass) (heading : FrameHeading) (payload : List Byte)
      (frame : deliveredFrame c = some (cls, heading, payload)) (heard : hears heading.gap s = true) :
      Effect s c (settle (enterHalted (listeningFrame (gapSeen s))))
  | frameTaken (c : Instr) (cls : FrameClass) (heading : FrameHeading) (payload : List Byte)
      (frame : deliveredFrame c = some (cls, heading, payload)) (heard : hears heading.gap s = true)
      (other : ownField s ≠ some heading.sender) :
      Effect s c (settleMembership (takePayload cls heading.sender payload (listeningFrame (gapSeen s))))
  | listenExpired (state : s.seq.state = .listening) :
      Effect s .listenTimerExpiry
        (settle ((newMoment s).setSeq { s.seq with state := .joining, listenTimer := none, joinPending := true }))
  | syncExpired (state : s.seq.state = .syncing) : Effect s .syncTimerExpiry (settle (repairTest (enterSynced (newMoment s))))
  | holdOffExpired (state : s.seq.state = .withdrawn) :
      Effect s .holdOffExpiry
        (settle (enterListening .afterWithdrawal (awaitGap ((newMoment s).setLine { s.line with holdOff := none }))))
  | stationAbsent (n : Station) (receiving : receives s.seq.state = true) (other : s.cfg.self ≠ some n) :
      Effect s (.absentTimeout n)
        (settleMembership (moveEntry n { state := .absent, ageMs := 0, lastDigest := s.members.entries[n].lastDigest } (newMoment s)))
  | repairExpired : Effect s .repairTimerExpiry (repairTest ((newMoment s).setMembers { s.members with repairTimer := none }))
  | presenceExpired (due : s.timers.t0 = .counting 0) :
      Effect s .t0PresenceExpiry
        ((newMoment s).setTimers { s.timers with t0 := .counting s.cfg.presenceMs, presencePending := true })
  | activityExpired (timer : ActivityTimer) (due : timerOf s.timers timer = .counting 0) :
      Effect s (.activityTimerExpiry timer) (settleHorn ((newMoment s).setTimers (withTimer s.timers timer .expired)))
  | testExpired : Effect s .lampTestTimeout ((newMoment s).setLamp { s.lamp with test := .timedOut })
  | fieldPinSet (l : InputLine) (pin : PinLevel) : Effect s (.fieldInputChange l pin) (setFieldPin l pin s)
  | lineSampled (c : Instr) (l : InputLine) (pin : PinLevel) (d : Debouncer Level) :
      Effect s c (settle (lineDebounced l d (newMoment (setFieldPin l pin s))))
  | lineSettled (l : InputLine) (d : Debouncer Level) :
      Effect s (.inputSettlingExpiry l) (settle (lineDebounced l d (newMoment s)))
  | buttonPinSet (b : Button) (pin : PinLevel) : Effect s (.buttonInputChange b pin) (setButtonPin b pin s)
  | buttonSampled (c : Instr) (b : Button) (pin : PinLevel) (d : Debouncer ButtonLevel) :
      Effect s c (settle (buttonDebounced b d (newMoment (setButtonPin b pin s))))
  | buttonSettled (b : Button) (d : Debouncer ButtonLevel) :
      Effect s (.buttonSettlingExpiry b) (settle (buttonDebounced b d (newMoment s)))

/-! ### Each command -/

theorem effect_hardwareReset {cause : ResetCause} {s t : State} (h : execHardwareReset cause s = .next t) :
    Effect s (.hardwareReset cause) t := by
  cases cause with
  | supply _ =>
    simp only [execHardwareReset] at h
    split at h <;> cases h
    · exact .reset _ .supply
    · exact .supplyRose _
  | pin _ =>
    simp only [execHardwareReset] at h
    split at h <;> cases h
    · exact .reset _ .pin
    · exact .nothing _

theorem effect_resetRelease {cause : ReleaseCause} {stn : Vector PinLevel 5} {rate : Vector PinLevel 2} {s t : State}
    (h : execResetRelease cause stn rate s = .next t) : Effect s (.resetRelease cause stn rate) t := by
  unfold execResetRelease at h
  split at h
  · cases h; exact .nothing _
  · split at h <;> cases h
    · next held => exact .released cause stn rate _ held
    · exact .nothing _

theorem effect_imageReadComplete {mdi : List Bool} {s t : State} (h : execImageReadComplete mdi s = .next t) :
    Effect s (.imageReadComplete mdi) t := by
  unfold execImageReadComplete at h
  split at h <;> cases h
  · next reading => exact .imageRead mdi reading
  · exact .nothing _

theorem effect_loadChecksComplete {s t : State} (h : execLoadChecksComplete s = .next t) : Effect s .loadChecksComplete t := by
  unfold execLoadChecksComplete at h
  split at h
  · next ready =>
    split at h <;> cases h
    · exact .imageRefused ready.1 ready.2
    · exact .imageAccepted _ ready.1 ready.2
  · cases h; exact .nothing _

theorem effect_attemptStart {s t : State} (h : execAttemptStart s = .next t) : Effect s .attemptStart t := by
  unfold execAttemptStart at h
  split at h
  · cases h; exact .nothing _
  · next free =>
    split at h <;> cases h
    · next selected => exact .attemptStarted _ free selected
    · exact .nothing _

theorem effect_lostArbitration {s t : State} (h : execLostArbitration s = .next t) : Effect s .lostArbitration t := by
  unfold execLostArbitration at h
  split at h <;> cases h
  · exact .nothing _
  · next live => exact .arbitrationLost _ live

theorem effect_echoMismatch {s t : State} (h : execEchoMismatch s = .next t) : Effect s .echoMismatch t := by
  unfold execEchoMismatch at h
  split at h
  · cases h; exact .nothing _
  · next live =>
    split at h <;> cases h
    · exact .mismatchHalts _ live
    · next short => exact .attemptFailed _ _ _ live (.inl ⟨rfl, rfl⟩) (Nat.lt_of_not_le short)

theorem effect_attemptVoided {s t : State} (h : execAttemptVoided s = .next t) : Effect s .attemptVoided t := by
  unfold execAttemptVoided at h
  split at h <;> cases h
  · exact .nothing _
  · next live => exact .attemptFailed _ _ _ live (.inr ⟨rfl, rfl⟩) (by decide)

theorem effect_ownFrameSuccessfulEnd {s t : State} (h : execOwnFrameSuccessfulEnd s = .next t) :
    Effect s .ownFrameSuccessfulEnd t := by
  unfold execOwnFrameSuccessfulEnd at h
  split at h <;> cases h
  · exact .nothing _
  · next live => exact .ownFrame _ live

theorem effect_faultyFrameReceived {faulty : FaultyFrame} {s t : State} (h : execFaultyFrameReceived faulty s = .next t) :
    Effect s (.faultyFrameReceived faulty) t := by
  cases h
  unfold whenHeard
  split
  · next heard => exact .frameFaulty faulty heard
  · exact .nothing _

/-- A void, or a frame of class 7: where it is heard it is discarded. -/
theorem effect_discarded {c : Instr} {gap : Nat} {s t : State}
    (h : Host.Outcome.next (whenHeard gap (fun s => repairTest (listeningFrame s)) s) = (.next t : Host.Outcome State Fault Refusal)) :
    Effect s c t := by
  cases h
  unfold whenHeard
  split
  · next heard => exact .frameDiscarded c gap heard
  · exact .nothing _

theorem effect_deliveredFrame {c : Instr} {cls : FrameClass} {heading : FrameHeading} {payload : List Byte} {s t : State}
    (frame : deliveredFrame c = some (cls, heading, payload)) (h : exec c s = .next t) : Effect s c t := by
  rw [exec_deliveredFrame frame] at h
  cases h
  unfold frameEnds whenHeard
  split
  · next heard =>
    beta_reduce
    split
    · exact .frameHalts c cls heading payload frame heard
    · next other => exact .frameTaken c cls heading payload frame heard (by simpa [ownField] using other)
  · exact .nothing _

theorem effect_listenTimerExpiry {s t : State} (h : execListenTimerExpiry s = .next t) : Effect s .listenTimerExpiry t := by
  unfold execListenTimerExpiry at h
  split at h <;> cases h
  · next due => exact .listenExpired due.1
  · exact .nothing _

theorem effect_syncTimerExpiry {s t : State} (h : execSyncTimerExpiry s = .next t) : Effect s .syncTimerExpiry t := by
  unfold execSyncTimerExpiry at h
  split at h <;> cases h
  · next due => exact .syncExpired due.1
  · exact .nothing _

theorem effect_holdOffExpiry {s t : State} (h : execHoldOffExpiry s = .next t) : Effect s .holdOffExpiry t := by
  unfold execHoldOffExpiry at h
  split at h <;> cases h
  · next due => exact .holdOffExpired due.1
  · exact .nothing _

theorem effect_absentTimeout {n : Station} {s t : State} (h : execAbsentTimeout n s = .next t) : Effect s (.absentTimeout n) t := by
  unfold execAbsentTimeout at h
  split at h <;> cases h
  · next due => exact .stationAbsent n due.1 due.2.1
  · exact .nothing _

theorem effect_repairTimerExpiry {s t : State} (h : execRepairTimerExpiry s = .next t) : Effect s .repairTimerExpiry t := by
  unfold execRepairTimerExpiry at h
  split at h <;> cases h
  · exact .repairExpired
  · exact .nothing _

theorem effect_t0PresenceExpiry {s t : State} (h : execT0PresenceExpiry s = .next t) : Effect s .t0PresenceExpiry t := by
  unfold execT0PresenceExpiry at h
  split at h <;> cases h
  · next due => exact .presenceExpired due
  · exact .nothing _

theorem effect_activityTimerExpiry {timer : ActivityTimer} {s t : State} (h : execActivityTimerExpiry timer s = .next t) :
    Effect s (.activityTimerExpiry timer) t := by
  unfold execActivityTimerExpiry at h
  split at h <;> cases h
  · next due => exact .activityExpired timer due
  · exact .nothing _

theorem effect_lampTestTimeout {s t : State} (h : execLampTestTimeout s = .next t) : Effect s .lampTestTimeout t := by
  unfold execLampTestTimeout at h
  split at h <;> cases h
  · exact .testExpired
  · exact .nothing _

theorem effect_fieldInputChange {l : InputLine} {pin : PinLevel} {s t : State} (h : execFieldInputChange l pin s = .next t) :
    Effect s (.fieldInputChange l pin) t := by
  cases h
  unfold sampleLine
  split
  · exact .fieldPinSet l pin
  · split
    · exact .lineSampled _ l pin _
    · exact .fieldPinSet l pin

theorem effect_inputSettlingExpiry {l : InputLine} {s t : State} (h : execInputSettlingExpiry l s = .next t) :
    Effect s (.inputSettlingExpiry l) t := by
  unfold execInputSettlingExpiry at h
  split at h <;> cases h
  · exact .lineSettled l _
  · exact .nothing _

theorem effect_inputSettlingAbandoned {l : InputLine} {s t : State} (h : execInputSettlingAbandoned l s = .next t) :
    Effect s (.inputSettlingAbandoned l) t := by
  unfold execInputSettlingAbandoned at h
  split at h
  · next hp _ =>
    split at h <;> cases h
    · next runs =>
      unfold sampleLine
      simp only [setFieldPin_keeps, hp, if_pos runs]
      exact .lineSampled _ l _ _
    · exact .nothing _
  · cases h; exact .nothing _

theorem effect_buttonInputChange {b : Button} {pin : PinLevel} {s t : State} (h : execButtonInputChange b pin s = .next t) :
    Effect s (.buttonInputChange b pin) t := by
  cases h
  unfold sampleButton
  split
  · exact .buttonSampled _ b pin _
  · exact .buttonPinSet b pin

theorem effect_buttonSettlingExpiry {b : Button} {s t : State} (h : execButtonSettlingExpiry b s = .next t) :
    Effect s (.buttonSettlingExpiry b) t := by
  unfold execButtonSettlingExpiry at h
  split at h <;> cases h
  · exact .buttonSettled b _
  · exact .nothing _

theorem effect_buttonSettlingAbandoned {b : Button} {s t : State} (h : execButtonSettlingAbandoned b s = .next t) :
    Effect s (.buttonSettlingAbandoned b) t := by
  unfold execButtonSettlingAbandoned at h
  split at h
  · cases h; exact .nothing _
  · split at h <;> cases h
    · next runs =>
      unfold sampleButton
      simp only [setButtonPin_keeps, if_pos runs]
      exact .buttonSampled _ b _ _
    · exact .nothing _

/-- What a command does is one of its effects -/
theorem exec_effect {c : Instr} {s t : State} (h : exec c s = .next t) : Effect s c t := by
  cases c with
  | hardwareReset _ => exact effect_hardwareReset h
  | resetRelease _ _ _ => exact effect_resetRelease h
  | imageReadComplete _ => exact effect_imageReadComplete h
  | loadChecksComplete => exact effect_loadChecksComplete h
  | attemptStart => exact effect_attemptStart h
  | lostArbitration => exact effect_lostArbitration h
  | echoMismatch => exact effect_echoMismatch h
  | attemptVoided => exact effect_attemptVoided h
  | ownFrameSuccessfulEnd => exact effect_ownFrameSuccessfulEnd h
  | faultyFrameReceived _ => exact effect_faultyFrameReceived h
  | voidSeen => exact effect_discarded h
  | unassignedFrame _ _ => exact effect_discarded h
  | pointFrame _ _ | operatorFrame _ _ | joinFrame _ _ | snapshotStart _ _ | snapshotData _ _ | presenceFrame _ _ | queryStatus _ _
  | queryMembers _ _ | queryRegion _ _ | queryRestart _ _ | replyFrame _ _ => exact effect_deliveredFrame rfl h
  | listenTimerExpiry => exact effect_listenTimerExpiry h
  | syncTimerExpiry => exact effect_syncTimerExpiry h
  | holdOffExpiry => exact effect_holdOffExpiry h
  | absentTimeout _ => exact effect_absentTimeout h
  | repairTimerExpiry => exact effect_repairTimerExpiry h
  | t0PresenceExpiry => exact effect_t0PresenceExpiry h
  | activityTimerExpiry _ => exact effect_activityTimerExpiry h
  | lampTestTimeout => exact effect_lampTestTimeout h
  | fieldInputChange _ _ => exact effect_fieldInputChange h
  | inputSettlingExpiry _ => exact effect_inputSettlingExpiry h
  | buttonInputChange _ _ => exact effect_buttonInputChange h
  | buttonSettlingExpiry _ => exact effect_buttonSettlingExpiry h
  | inputSettlingAbandoned _ => exact effect_inputSettlingAbandoned h
  | buttonSettlingAbandoned _ => exact effect_buttonSettlingAbandoned h

/-! ## A step -/

/-- Settles O1: a step takes its command from the queue's front by definition. -/
theorem stepRunsTheFrontCommand : Obligations.StepRunsTheFrontCommand := by
  intro s c rest h
  rw [step, h]

/-- What a step does: a millisecond passes, or the front command has its effect on the state with the queue's rest. -/
theorem step_cases {s t : State} (h : step s = .next t) :
    (s.pending = [] ∧ t = tick s) ∨ ∃ c rest, s.pending = c :: rest ∧ Effect (s.setPending rest) c t := by
  unfold step at h
  split at h
  · next empty => cases h; exact .inl ⟨empty, rfl⟩
  · next c rest front => exact .inr ⟨c, rest, front, exec_effect h⟩

/-- An invariant that does not rest on the queue holds after a step when every effect and the millisecond keep it. -/
theorem step_keeps_of_effect {inv : State → Prop} (queue : ∀ (s : State) (rest : List Instr), inv s → inv (s.setPending rest))
    (passing : ∀ s : State, inv s → inv (tick s)) (effect : ∀ (s t : State) (c : Instr), inv s → Effect s c t → inv t) (s t : State)
    (hs : inv s) (h : step s = .next t) : inv t := by
  rcases step_cases h with ⟨-, rfl⟩ | ⟨c, rest, -, he⟩
  · exact passing s hs
  · exact effect _ t c (queue s rest hs) he

/-- No arm of `exec` ends in a fault or a refusal. -/
theorem exec_answers (c : Instr) (s : State) : ∃ t, exec c s = .next t := by
  have of_split {p : Prop} [Decidable p] {a b : Host.Outcome State Fault Refusal} (ha : ∃ t, a = .next t) (hb : ∃ t, b = .next t) :
      ∃ t, (if p then a else b) = .next t := by
    split
    · exact ha
    · exact hb
  cases c with
  | hardwareReset cause => cases cause <;> exact of_split ⟨_, rfl⟩ ⟨_, rfl⟩
  | resetRelease cause stn rate =>
    change ∃ t, execResetRelease cause stn rate s = .next t
    unfold execResetRelease
    split
    · exact ⟨_, rfl⟩
    · exact of_split ⟨_, rfl⟩ ⟨_, rfl⟩
  | loadChecksComplete =>
    change ∃ t, execLoadChecksComplete s = .next t
    unfold execLoadChecksComplete
    refine of_split ?_ ⟨_, rfl⟩
    split <;> exact ⟨_, rfl⟩
  | attemptStart =>
    change ∃ t, execAttemptStart s = .next t
    unfold execAttemptStart
    split
    · exact ⟨_, rfl⟩
    · split <;> exact ⟨_, rfl⟩
  | lostArbitration =>
    change ∃ t, execLostArbitration s = .next t
    unfold execLostArbitration
    split <;> exact ⟨_, rfl⟩
  | echoMismatch =>
    change ∃ t, execEchoMismatch s = .next t
    unfold execEchoMismatch
    split
    · exact ⟨_, rfl⟩
    · exact of_split ⟨_, rfl⟩ ⟨_, rfl⟩
  | attemptVoided =>
    change ∃ t, execAttemptVoided s = .next t
    unfold execAttemptVoided
    split <;> exact ⟨_, rfl⟩
  | ownFrameSuccessfulEnd =>
    change ∃ t, execOwnFrameSuccessfulEnd s = .next t
    unfold execOwnFrameSuccessfulEnd
    split <;> exact ⟨_, rfl⟩
  | inputSettlingAbandoned l =>
    change ∃ t, execInputSettlingAbandoned l s = .next t
    unfold execInputSettlingAbandoned
    split
    · exact of_split ⟨_, rfl⟩ ⟨_, rfl⟩
    · exact ⟨_, rfl⟩
  | buttonSettlingAbandoned b =>
    change ∃ t, execButtonSettlingAbandoned b s = .next t
    unfold execButtonSettlingAbandoned
    split
    · exact ⟨_, rfl⟩
    · exact of_split ⟨_, rfl⟩ ⟨_, rfl⟩
  | imageReadComplete _ | listenTimerExpiry | syncTimerExpiry | holdOffExpiry | absentTimeout _ | repairTimerExpiry | t0PresenceExpiry
  | activityTimerExpiry _ | lampTestTimeout | inputSettlingExpiry _ | buttonSettlingExpiry _ => exact of_split ⟨_, rfl⟩ ⟨_, rfl⟩
  | faultyFrameReceived _ | voidSeen | pointFrame _ _ | operatorFrame _ _ | joinFrame _ _ | snapshotStart _ _ | snapshotData _ _
  | presenceFrame _ _ | queryStatus _ _ | queryMembers _ _ | queryRegion _ _ | queryRestart _ _ | replyFrame _ _ | unassignedFrame _ _
  | fieldInputChange _ _ | buttonInputChange _ _ => exact ⟨_, rfl⟩

theorem enterHalted_pending (s : State) : (enterHalted s).pending = s.pending := rfl

theorem afterFailure_pending (s : State) : (afterFailure s).pending = s.pending := by
  unfold afterFailure
  split
  · simp [enterWithdrawn]
  · simp

/-- No command touches the queue (R168). -/
theorem effect_pending {s t : State} {c : Instr} (h : Effect s c t) : t.pending = s.pending := by
  cases h with
  | nothing | reset | imageRefused | testExpired | imageRead | attemptStarted | presenceExpired => rfl
  | supplyRose => unfold supplyRisen; split <;> rfl
  | released => unfold Machine.released; split <;> rfl
  | imageAccepted => simp [acceptImage]
  | attemptFailed => simp [afterFailure_pending, failedAttempt]
  | mismatchHalts => simp [enterHalted_pending, failedAttempt]
  | frameHalts => simp [enterHalted_pending]
  | arbitrationLost | ownFrame | frameFaulty | frameDiscarded | frameTaken | listenExpired | syncExpired | holdOffExpired
  | stationAbsent | repairExpired | activityExpired | fieldPinSet | lineSampled | lineSettled | buttonPinSet | buttonSampled
  | buttonSettled => simp

/-- Settles O3: `exec_answers` and `effect_pending`. -/
theorem everyCommandAnswersANextState : Obligations.EveryCommandAnswersANextState := by
  intro c s
  obtain ⟨t, h⟩ := exec_answers c s
  exact ⟨t, h, effect_pending (exec_effect h)⟩

/-! ## Line states (section 5.1) -/

/-- A PRESENT, ABSENT or other entry that keeps its state raises nothing (R80). -/
theorem moveEntry_same {n : Station} {e : MemberEntry} {s : State} (h : e.state = s.members.entries[n].state) :
    moveEntry n e s = setEntry n e s := by
  rw [moveEntry, if_pos h]

/-- A frame that is only heard raises nothing (R77). -/
@[simp] theorem hearOnly_raised (f : StationField) (s : State) : (hearOnly f s).raised = s.raised := by
  unfold hearOnly hear
  split
  · rfl
  · split
    · rfl
    · rw [moveEntry_same (by rfl)]
      simp

theorem takeRegion_raised (w : Window) (s : State) : (takeRegion w s).raised = s.raised := by
  unfold takeRegion
  split
  · split <;> rfl
  · rfl

theorem answerQuery_raised (f : StationField) (q : Query) (s : State) : (answerQuery f q s).raised = s.raised := by
  cases q with
  | status _ | members _ _ =>
    simp only [answerQuery]
    split <;> rfl
  | region _ w =>
    simp only [answerQuery]
    split
    · exact takeRegion_raised w s
    · rfl
  | restart _ =>
    simp only [answerQuery]
    split <;> rfl

theorem takeMalformed_raised (cls : FrameClass) (f : StationField) (s : State) : (takeMalformed cls f s).raised = s.raised := by
  cases cls with
  | snapshot =>
    simp only [takeMalformed]
    split
    · simp
    · rfl
  | unassigned => rfl
  | point => simp [takeMalformed]
  | operator | join | presence | query | reply => simp [takeMalformed]

/-- A QUERY or REPLY frame raises no class (R77). -/
theorem takePayload_raised {cls : FrameClass} (hc : cls = .query ∨ cls = .reply) (f : StationField) (payload : List Byte) (s : State) :
    (takePayload cls f payload s).raised = s.raised := by
  unfold takePayload
  split
  · exact takeMalformed_raised cls f s
  · next content h =>
    have hcls := classOf_readPayload h
    cases content with
    | query q => exact (answerQuery_raised f q _).trans (hearOnly_raised f s)
    | reply _ _ _ => exact hearOnly_raised f s
    | point _ _ _ | operator _ _ _ _ | join _ _ | start _ _ _ _ | data _ _ _ | presence _ _ _ =>
      rw [← hcls] at hc
      simp [classOf] at hc

/-- Synchronisation ends in SYNCED by a change of membership, or the station is as it was (R96). -/
theorem synchronise_cases (s : State) :
    (s.seq.state = .syncing ∧ actsOn s.raised classMembership = true ∧ anyStale s = false ∧ synchronise s = enterSynced s)
      ∨ synchronise s = s := by
  unfold synchronise
  split
  · next h => exact .inl ⟨h.1, h.2.1, by simpa using h.2.2, rfl⟩
  · exact .inr rfl

@[simp] theorem enterSynced_lineState (s : State) : (enterSynced s).seq.state = .synced := by simp [enterSynced]

@[simp] theorem settleMembership_seq (s : State) : (settleMembership s).seq = (synchronise s).seq := by simp [settleMembership]

/-- The moment of the membership table moves the line state by the end of synchronisation alone (R96). -/
theorem settleMembership_lineState (s : State) :
    (settleMembership s).seq.state = s.seq.state
      ∨ (s.seq.state = .syncing ∧ actsOn s.raised classMembership = true ∧ (settleMembership s).seq.state = .synced) := by
  rw [settleMembership_seq]
  rcases synchronise_cases s with ⟨hs, hr, -, e⟩ | e <;> rw [e]
  · exact .inr ⟨hs, hr, enterSynced_lineState s⟩
  · exact .inl rfl

/-- Only a RESTART query moves the line state as it is taken (R102). -/
theorem takePayload_lineState (cls : FrameClass) (f : StationField) (payload : List Byte) (s : State) :
    (takePayload cls f payload s).seq.state = s.seq.state
      ∨ (cls = .query ∧ (takePayload cls f payload s).seq.state = .listening) := by
  rcases takePayload_cases cls f payload s with ⟨_, h, -, e⟩ | h
  · exact .inr ⟨(classOf_readPayload h).symm, by rw [e]; rfl⟩
  · exact .inl h.lineState

/-- The end of an own JOIN moves the line state from JOINING (R94). -/
theorem joinSent_lineState (s : State) :
    (joinSent s).seq.state = s.seq.state
      ∨ (s.seq.state = .joining ∧ ((joinSent s).seq.state = .syncing ∨ (joinSent s).seq.state = .synced)) := by
  unfold joinSent
  split
  · next h =>
    split
    · exact .inr ⟨h, .inl rfl⟩
    · exact .inr ⟨h, .inr (enterSynced_lineState _)⟩
  · exact .inl rfl

theorem takeOwn_lineState (content : FrameContent) (s : State) :
    (takeOwn content s).seq.state = s.seq.state
      ∨ (s.seq.state = .joining ∧ ((takeOwn content s).seq.state = .syncing ∨ (takeOwn content s).seq.state = .synced)) := by
  cases content with
  | join _ _ => exact joinSent_lineState s
  | point p w d => exact .inl (by simpa [takeOwn] using (takenFrame_takePoint _ p w d s).lineState)
  | operator op g h d => exact .inl (takenFrame_takeOperator _ op g h d s).lineState
  | start _ _ _ _ | data _ _ _ | presence _ _ _ | query _ | reply _ _ _ => exact .inl rfl

/-- A station with an attempt of its own may transmit (R49). -/
theorem transmits_of_liveAttempt {s : State} {a : Attempt} (h : liveAttempt s = some a) :
    transmits s.seq.state = true ∧ s.line.attempt = some a := by
  unfold liveAttempt at h
  split at h
  · next ht => exact ⟨ht, h⟩
  · cases h

theorem transmits_iff (state : LineState) : transmits state = true ↔ state = .joining ∨ state = .syncing ∨ state = .synced := by
  cases state <;> decide

theorem receives_iff (state : LineState) :
    receives state = true ↔ state = .listening ∨ state = .joining ∨ state = .syncing ∨ state = .synced := by
  cases state <;> decide

theorem receives_of_hears {gap : Nat} {s : State} (h : hears gap s = true) : receives s.seq.state = true := ((hears_iff gap s).1 h).1

/-- The state that hardware reset brings is entered from every other. -/
theorem lineStateMayPass_off {c : Instr} (h : isHardwareReset c = true) (a : LineState) : lineStateMayPass c a .off = true := by
  cases a with
  | off => rfl
  | listening | joining | syncing | synced | withdrawn | halted => exact h

theorem lineStateMayPass_self (c : Instr) (a : LineState) : lineStateMayPass c a a = true :=
  Bool.or_eq_true_iff.2 (.inl (beq_self_eq_true a))

theorem lineStateMayPass_of_eq {c : Instr} {a b : LineState} (h : b = a) : lineStateMayPass c a b = true := h ▸ lineStateMayPass_self c b

/-- A delivered frame halts a station that receives (R47). -/
theorem lineStateMayPass_halted {c : Instr} (h : isDeliveredFrame c = true) {a : LineState} (ha : receives a = true) :
    lineStateMayPass c a .halted = true := by
  rcases (receives_iff a).1 ha with rfl | rfl | rfl | rfl
  · exact h
  all_goals exact Bool.or_eq_true_iff.2 (.inr (Bool.or_eq_true_iff.2 (.inl h)))

/-- A frame row of another class than QUERY and REPLY may move an entry. -/
theorem movesMembership_of_class {c : Instr} {cls : FrameClass} {heading : FrameHeading} {payload : List Byte}
    (h : deliveredFrame c = some (cls, heading, payload)) (hc : ¬ (cls = .query ∨ cls = .reply)) : movesMembership c = true := by
  unfold deliveredFrame at h
  split at h
  all_goals cases h
  all_goals simp [movesMembership] at hc ⊢

theorem isQueryFrame_of_class {c : Instr} {heading : FrameHeading} {payload : List Byte}
    (h : deliveredFrame c = some (.query, heading, payload)) : isQueryFrame c = true := by
  unfold deliveredFrame at h
  split at h <;> cases h <;> rfl

theorem lineStateMayPass_frameTaken {c : Instr} {cls : FrameClass} {heading : FrameHeading} {payload : List Byte} {s : State}
    (frame : deliveredFrame c = some (cls, heading, payload)) (heard : hears heading.gap s = true) (f : StationField) :
    lineStateMayPass c s.seq.state
      (settleMembership (takePayload cls f payload (listeningFrame (gapSeen s)))).seq.state = true := by
  have taken := takePayload_lineState cls f payload (listeningFrame (gapSeen s))
  simp only [listeningFrame_keeps, gapSeen_keeps] at taken
  rcases settleMembership_lineState (takePayload cls f payload (listeningFrame (gapSeen s))) with e | ⟨hs, hr, e⟩ <;> rw [e]
  · rcases taken with e | ⟨rfl, e⟩ <;> rw [e]
    · exact lineStateMayPass_self c _
    · have hq := isQueryFrame_of_class frame
      rcases (receives_iff _).1 (receives_of_hears heard) with h | h | h | h <;> rw [h]
      · rfl
      all_goals exact hq
  · have hstate : s.seq.state = .syncing := by
      rcases taken with e | ⟨-, e⟩
      · exact e.symm.trans hs
      · rw [e] at hs; cases hs
    have hmoves : movesMembership c = true := by
      refine movesMembership_of_class frame fun hc => ?_
      rw [takePayload_raised hc] at hr
      simp [actsOn] at hr
    rw [hstate]
    exact Bool.or_eq_true_iff.2 (.inr (Bool.or_eq_true_iff.2 (.inl (Bool.or_eq_true_iff.2 (.inl hmoves)))))

theorem lineStateMayPass_afterFailure {s : State} {c : Instr} (hs : transmits s.seq.state = true)
    (hc : c = .echoMismatch ∨ c = .attemptVoided) : lineStateMayPass c s.seq.state (afterFailure s).seq.state = true := by
  unfold afterFailure
  split
  · have e : (settle (enterWithdrawn s)).seq.state = .withdrawn := by simp [enterWithdrawn]
    rw [e]
    rcases (transmits_iff _).1 hs with h | h | h <;> rcases hc with rfl | rfl <;> rw [h] <;> rfl
  · exact lineStateMayPass_of_eq (by simp)

/-- Every effect moves the line state by the table of section 5.1. -/
theorem effect_lineState {s t : State} {c : Instr} (h : Effect s c t) : lineStateMayPass c s.seq.state t.seq.state = true := by
  cases h with
  | nothing | imageRead | attemptStarted | repairExpired | presenceExpired | activityExpired | testExpired | arbitrationLost
  | frameFaulty | frameDiscarded | fieldPinSet | lineSampled | lineSettled | buttonPinSet | buttonSampled | buttonSettled =>
    exact lineStateMayPass_of_eq (by simp)
  | reset => exact lineStateMayPass_off rfl _
  | supplyRose => exact lineStateMayPass_of_eq (by unfold supplyRisen; split <;> rfl)
  | released => exact lineStateMayPass_of_eq (by unfold Machine.released; split <;> rfl)
  | imageRefused _ off => rw [off]; rfl
  | imageAccepted cfg _ off =>
    have e : (acceptImage cfg s).seq.state = .listening := by simp [acceptImage, enterListening]
    rw [off, e]
    rfl
  | mismatchHalts a live =>
    have e : (settle (enterHalted (failedAttempt (s.line.mismatches + 1) s))).seq.state = .halted := by simp [enterHalted]
    rw [e]
    rcases (transmits_iff _).1 (transmits_of_liveAttempt live).1 with h | h | h <;> rw [h] <;> rfl
  | attemptFailed c a mismatches live cause =>
    have hc : c = .echoMismatch ∨ c = .attemptVoided := cause.imp And.left And.left
    exact lineStateMayPass_afterFailure (s := failedAttempt mismatches s) (transmits_of_liveAttempt live).1 hc
  | ownFrame a =>
    have h := takeOwn_lineState a.content (frameSent a s)
    simp only [settle_keeps, repairTest_keeps, frameSent_keeps] at h ⊢
    rcases h with e | ⟨hs, e | e⟩
    · exact lineStateMayPass_of_eq e
    · rw [hs, e]; rfl
    · rw [hs, e]; rfl
  | frameHalts _ cls heading payload frame heard =>
    have e : (settle (enterHalted (listeningFrame (gapSeen s)))).seq.state = .halted := by simp [enterHalted]
    rw [e]
    exact lineStateMayPass_halted (by simp [isDeliveredFrame_iff, frame]) (receives_of_hears heard)
  | frameTaken _ cls heading payload frame heard _ => exact lineStateMayPass_frameTaken frame heard heading.sender
  | listenExpired state =>
    rw [state]
    rfl
  | syncExpired state =>
    rw [state, show (settle (repairTest (enterSynced (newMoment s)))).seq.state = .synced by simp]
    rfl
  | holdOffExpired state =>
    rw [state]
    rfl
  | stationAbsent n receiving _ =>
    rcases settleMembership_lineState
      (moveEntry n { state := .absent, ageMs := 0, lastDigest := s.members.entries[n].lastDigest } (newMoment s)) with e | ⟨hs, -, e⟩
    · exact lineStateMayPass_of_eq (by rw [e]; simp)
    · rw [e]
      simp only [moveEntry_keeps, newMoment_keeps] at hs
      rw [hs]
      rfl

/-- Settles O58: `effect_lineState`. -/
theorem lineStateMovesByItsTable : Obligations.LineStateMovesByItsTable := fun _ _ _ h => effect_lineState (exec_effect h)

end Sys2Proof.Machine
end

section
/-! PROOFS. The line controller's, the sequencer's and the loader's items fit the line state through every step (R31, R35, R42, R43, R46, R49, R89,
R91, R187 to R189). -/

namespace Sys2Proof.Machine

open Sys2Proof

/-! ## The blocks that the passages between line states keep -/

@[simp] theorem enterHalted_keeps (s : State) :
    (enterHalted s).loader = s.loader ∧ (enterHalted s).hold = s.hold ∧ (enterHalted s).pins = s.pins
      ∧ (enterHalted s).cfg = s.cfg ∧ (enterHalted s).points = s.points ∧ (enterHalted s).transfer = s.transfer
      ∧ (enterHalted s).scanner = s.scanner ∧ (enterHalted s).timers = s.timers ∧ (enterHalted s).responder = s.responder
      ∧ (enterHalted s).raised = s.raised ∧ (enterHalted s).pending = s.pending := by
  simp [enterHalted]

@[simp] theorem enterWithdrawn_keeps (s : State) :
    (enterWithdrawn s).loader = s.loader ∧ (enterWithdrawn s).hold = s.hold ∧ (enterWithdrawn s).pins = s.pins
      ∧ (enterWithdrawn s).cfg = s.cfg ∧ (enterWithdrawn s).scanner = s.scanner ∧ (enterWithdrawn s).lamp = s.lamp
      ∧ (enterWithdrawn s).raised = s.raised ∧ (enterWithdrawn s).pending = s.pending := by
  simp [enterWithdrawn]

@[simp] theorem failedAttempt_keeps (mismatches : Nat) (s : State) :
    (failedAttempt mismatches s).loader = s.loader ∧ (failedAttempt mismatches s).hold = s.hold
      ∧ (failedAttempt mismatches s).pins = s.pins ∧ (failedAttempt mismatches s).cfg = s.cfg
      ∧ (failedAttempt mismatches s).points = s.points ∧ (failedAttempt mismatches s).seq = s.seq
      ∧ (failedAttempt mismatches s).members = s.members ∧ (failedAttempt mismatches s).transfer = s.transfer
      ∧ (failedAttempt mismatches s).scanner = s.scanner ∧ (failedAttempt mismatches s).panel = s.panel
      ∧ (failedAttempt mismatches s).timers = s.timers ∧ (failedAttempt mismatches s).lamp = s.lamp
      ∧ (failedAttempt mismatches s).responder = s.responder ∧ (failedAttempt mismatches s).pending = s.pending := by
  simp [failedAttempt]

@[simp] theorem failedAttempt_line (mismatches : Nat) (s : State) :
    (failedAttempt mismatches s).line
      = { s.line with attempt := none, drive := .recessive, failures := s.line.failures + 1, mismatches := mismatches } := rfl

@[simp] theorem gapSeen_line (s : State) : (gapSeen s).line = { s.line with awaitsGap := false } := rfl

/-- A failed attempt that does not halt: the station is withdrawn at the limit, else the repair test is made (R43). -/
theorem afterFailure_cases (s : State) :
    (failureLimit ≤ s.line.failures ∧ afterFailure s = settle (enterWithdrawn s))
      ∨ (s.line.failures < failureLimit ∧ afterFailure s = repairTest s) := by
  unfold afterFailure
  split
  · next h => exact .inl ⟨h, rfl⟩
  · next h => exact .inr ⟨Nat.lt_of_not_le h, rfl⟩

@[simp] theorem afterFailure_keeps (s : State) :
    (afterFailure s).loader = s.loader ∧ (afterFailure s).hold = s.hold ∧ (afterFailure s).pins = s.pins
      ∧ (afterFailure s).cfg = s.cfg ∧ (afterFailure s).scanner = s.scanner ∧ (afterFailure s).lamp = s.lamp
      ∧ (afterFailure s).pending = s.pending := by
  rcases afterFailure_cases s with ⟨-, e⟩ | ⟨-, e⟩ <;> simp [e]

@[simp] theorem supplyRisen_keeps (s : State) :
    (supplyRisen s).loader = s.loader ∧ (supplyRisen s).pins = s.pins ∧ (supplyRisen s).cfg = s.cfg
      ∧ (supplyRisen s).points = s.points ∧ (supplyRisen s).line = s.line ∧ (supplyRisen s).seq = s.seq
      ∧ (supplyRisen s).members = s.members ∧ (supplyRisen s).transfer = s.transfer ∧ (supplyRisen s).scanner = s.scanner
      ∧ (supplyRisen s).panel = s.panel ∧ (supplyRisen s).timers = s.timers ∧ (supplyRisen s).lamp = s.lamp
      ∧ (supplyRisen s).responder = s.responder ∧ (supplyRisen s).raised = s.raised ∧ (supplyRisen s).pending = s.pending := by
  unfold supplyRisen
  split <;> simp

@[simp] theorem released_keeps (source : ResetSource) (s : State) :
    (released source s).pins = s.pins ∧ (released source s).cfg = s.cfg
      ∧ (released source s).points = s.points ∧ (released source s).line = s.line ∧ (released source s).seq = s.seq
      ∧ (released source s).members = s.members ∧ (released source s).transfer = s.transfer
      ∧ (released source s).scanner = s.scanner ∧ (released source s).panel = s.panel ∧ (released source s).timers = s.timers
      ∧ (released source s).lamp = s.lamp ∧ (released source s).responder = s.responder ∧ (released source s).raised = s.raised
      ∧ (released source s).pending = s.pending := by
  unfold released
  split <;> simp [beginReading]

@[simp] theorem acceptImage_keeps (cfg : Configuration) (s : State) :
    (acceptImage cfg s).hold = s.hold ∧ (acceptImage cfg s).pins = s.pins ∧ (acceptImage cfg s).cfg = cfg
      ∧ (acceptImage cfg s).line = { s.line with awaitsGap := true } ∧ (acceptImage cfg s).transfer = s.transfer
      ∧ (acceptImage cfg s).lamp = s.lamp ∧ (acceptImage cfg s).responder = s.responder
      ∧ (acceptImage cfg s).pending = s.pending := by
  simp [acceptImage, awaitGap]

/-- Acceptance enters LISTENING (R90, R91). -/
@[simp] theorem acceptImage_seq (cfg : Configuration) (s : State) :
    (acceptImage cfg s).seq
      = { state := .listening, joinReason := .hardwareReset, listenTimer := some (listenMs cfg), syncTimer := none, joinPending := false,
          orderCount := 0, countValid := false, pointHeard := false } := by
  simp [acceptImage, enterListening]

@[simp] theorem acceptImage_loader (cfg : Configuration) (s : State) :
    (acceptImage cfg s).loader = { s.loader with state := .accepted, image := [], digest := some s.loader.checkResult } := by
  simp [acceptImage]

/-! ## Attempts (R31, R35, R42, R49) -/

theorem receives_of_transmits {state : LineState} (h : transmits state = true) : receives state = true := by
  revert h
  cases state <;> decide

/-- A station that does not receive has no attempt, and leaves the line recessive. -/
theorem AttemptInv.quiet {s : State} (hs : AttemptInv s) (h : receives s.seq.state = false) :
    s.line.attempt = none ∧ s.line.drive = .recessive := by
  obtain ⟨attempt, drive, -⟩ := hs
  refine ⟨?_, drive h⟩
  cases ha : s.line.attempt with
  | none => rfl
  | some a =>
    have := receives_of_transmits (attempt (by rw [ha]; rfl))
    rw [h] at this
    cases this

/-- A line let go fits every line state. -/
theorem attemptInv_of_released {t : State} (ha : t.line.attempt = none) (hd : t.line.drive = .recessive) : AttemptInv t :=
  ⟨fun h => (by rw [ha] at h; cases h), fun _ => hd, fun _ => ⟨ha, hd⟩⟩

/-- The invariant speaks of the line and of what the line state allows. -/
theorem AttemptInv.of_line {s t : State} (hs : AttemptInv s) (hl : t.line = s.line)
    (hx : transmits s.seq.state = true → transmits t.seq.state = true)
    (hr : receives t.seq.state = false → receives s.seq.state = false) : AttemptInv t := by
  obtain ⟨attempt, drive, gap⟩ := hs
  unfold AttemptInv
  rw [hl]
  exact ⟨fun h => hx (attempt h), fun h => drive (hr h), gap⟩

theorem AttemptInv.of_same {s t : State} (hs : AttemptInv s) (hl : t.line = s.line) (hq : t.seq.state = s.seq.state) : AttemptInv t :=
  hs.of_line hl (fun h => hq ▸ h) (fun h => hq ▸ h)

/-- The selector starts an attempt only where the line state allows one (R49). -/
theorem transmits_of_selectAttempt {s : State} {a : Attempt} (h : selectAttempt s = some a) : transmits s.seq.state = true := by
  unfold selectAttempt at h
  split at h
  · cases h
  · next src hsrc =>
    have allowed := List.find?_some hsrc
    simp only [Bool.and_eq_true] at allowed
    revert allowed
    cases s.seq.state <;> cases src <;> simp [sourceAllowed, transmits]

theorem attemptInv_effect {s t : State} {c : Instr} (hs : AttemptInv s) (h : Effect s c t) : AttemptInv t := by
  cases h with
  | nothing => exact hs
  | reset => exact attemptInv_of_released rfl rfl
  | arbitrationLost | ownFrame | frameDiscarded | frameTaken => exact attemptInv_of_released (by simp) (by simp)
  | mismatchHalts | frameHalts => exact attemptInv_of_released (by simp [enterHalted]) (by simp [enterHalted])
  | attemptFailed _ _ mismatches =>
    rcases afterFailure_cases (failedAttempt mismatches s) with ⟨-, e⟩ | ⟨-, e⟩ <;> rw [e]
    · exact attemptInv_of_released (by simp [enterWithdrawn]) (by simp [enterWithdrawn])
    · exact attemptInv_of_released (by simp) (by simp)
  | imageAccepted cfg _ off =>
    obtain ⟨ha, hd⟩ := hs.quiet (by rw [off]; rfl)
    exact attemptInv_of_released (by simpa using ha) (by simpa using hd)
  | imageRefused _ off =>
    obtain ⟨ha, hd⟩ := hs.quiet (by rw [off]; rfl)
    exact attemptInv_of_released ha hd
  | holdOffExpired state =>
    obtain ⟨ha, hd⟩ := hs.quiet (by rw [state]; rfl)
    exact attemptInv_of_released (by simpa [awaitGap] using ha) (by simpa [awaitGap] using hd)
  | attemptStarted a _ selected =>
    have hx := transmits_of_selectAttempt selected
    refine ⟨fun _ => hx, fun h => ?_, fun h => by cases h⟩
    have hr : receives s.seq.state = false := h
    rw [receives_of_transmits hx] at hr
    cases hr
  | frameFaulty faulty heard =>
    refine ⟨fun h => by simp at h, fun h => ?_, fun h => by simp at h⟩
    simp [receives_of_hears heard] at h
  | listenExpired state => exact hs.of_line (by simp) (by simp [state, transmits]) (by simp [receives])
  | syncExpired state => exact hs.of_line (by simp) (by simp [transmits]) (by simp [receives])
  | stationAbsent n receiving _ =>
    refine hs.of_line (by simp) (fun hx => ?_) fun hr => ?_
    all_goals
      rcases settleMembership_lineState
        (moveEntry n { state := .absent, ageMs := 0, lastDigest := s.members.entries[n].lastDigest } (newMoment s)) with e | ⟨-, -, e⟩
    · rw [e]; simpa using hx
    · rw [e]; rfl
    · rw [e] at hr; simpa using hr
    · rw [e] at hr; cases hr
  | supplyRose | released | imageRead | repairExpired | presenceExpired | activityExpired | testExpired | fieldPinSet | lineSampled
  | lineSettled | buttonPinSet | buttonSampled | buttonSettled => exact hs.of_same (by simp) (by simp)

/-- A millisecond ends a receiver's mark and void, and nothing else of the drive (assumption 8). -/
theorem attemptInv_tick {s : State} (hs : AttemptInv s) : AttemptInv (tick s) := by
  obtain ⟨attempt, -, gap⟩ := id hs
  refine ⟨attempt, fun h => ?_, fun h => ⟨(gap h).1, ?_⟩⟩
  · change (if s.line.attempt.isSome then Drive.frame else .recessive) = .recessive
    rw [(hs.quiet h).1]
    rfl
  · change (if s.line.attempt.isSome then Drive.frame else .recessive) = .recessive
    rw [(gap h).1]
    rfl

/-! ## The failure counts (R43, R46) -/

theorem FailureInv.of_counts {s t : State} (hs : FailureInv s) (hf : t.line.failures = s.line.failures)
    (hm : t.line.mismatches = s.line.mismatches) (hq : s.seq.state = .halted → t.seq.state = .halted) : FailureInv t := by
  obtain ⟨failures, mismatches, below⟩ := hs
  unfold FailureInv
  rw [hf, hm]
  exact ⟨failures, mismatches, fun h => below fun g => h (hq g)⟩

theorem failureInv_of_zero {t : State} (hf : t.line.failures = 0) (hm : t.line.mismatches = 0) : FailureInv t := by
  unfold FailureInv
  rw [hf, hm]
  exact ⟨by decide, by decide, fun _ => by decide⟩

theorem FailureInv.below {s : State} (hs : FailureInv s) (hx : transmits s.seq.state = true) :
    s.line.failures < failureLimit ∧ s.line.mismatches < mismatchLimit := by
  obtain ⟨-, -, below⟩ := hs
  refine below fun h => ?_
  rw [h] at hx
  cases hx

/-- HALTED is left by hardware reset alone (R48). -/
theorem halted_stays {s t : State} {c : Instr} (h : Effect s c t) (hc : isHardwareReset c = false) (hs : s.seq.state = .halted) :
    t.seq.state = .halted := by
  have pass := effect_lineState h
  rw [hs] at pass
  revert pass
  cases t.seq.state <;> simp [lineStateMayPass, hc]

theorem failureInv_effect {s t : State} {c : Instr} (hs : FailureInv s) (h : Effect s c t) : FailureInv t := by
  have stays := halted_stays h
  cases h with
  | nothing => exact hs
  | reset => exact failureInv_of_zero rfl rfl
  | ownFrame => exact failureInv_of_zero (by simp) (by simp)
  | mismatchHalts a live =>
    obtain ⟨hf, hm⟩ := hs.below (transmits_of_liveAttempt live).1
    refine ⟨?_, ?_, fun h => absurd ?_ h⟩
    · simpa [enterHalted] using hf
    · simpa [enterHalted] using hm
    · simp [enterHalted]
  | attemptFailed _ a mismatches live _ counted =>
    obtain ⟨hf, -⟩ := hs.below (transmits_of_liveAttempt live).1
    rcases afterFailure_cases (failedAttempt mismatches s) with ⟨-, e⟩ | ⟨low, e⟩ <;> rw [e]
    · exact failureInv_of_zero (by simp [enterWithdrawn]) (by simp [enterWithdrawn])
    · simp only [failedAttempt_line] at low
      refine ⟨?_, ?_, fun _ => ⟨?_, ?_⟩⟩ <;> simp only [repairTest_keeps, failedAttempt_line] <;> omega
  | frameHalts _ _ _ _ frame => exact hs.of_counts (by simp [enterHalted]) (by simp [enterHalted]) fun _ => by simp [enterHalted]
  | frameTaken _ _ _ _ frame =>
    refine hs.of_counts (by simp) (by simp) (stays ?_)
    revert frame
    cases c <;> simp [deliveredFrame, isHardwareReset]
  | imageAccepted _ _ off => exact hs.of_counts (by simp) (by simp) (by simp [off])
  | imageRefused => exact hs.of_counts rfl rfl fun _ => rfl
  | holdOffExpired => exact hs.of_counts (by simp [awaitGap]) (by simp [awaitGap]) (stays rfl)
  | listenExpired | syncExpired | stationAbsent | repairExpired | presenceExpired | activityExpired | testExpired =>
    exact hs.of_counts (by simp) (by simp) (stays rfl)
  | frameDiscarded | frameFaulty | arbitrationLost | supplyRose | released | imageRead | attemptStarted | fieldPinSet | lineSampled
  | lineSettled | buttonPinSet | buttonSampled | buttonSettled => exact hs.of_counts (by simp) (by simp) fun h => by simpa using h

/-! ## The sequencer's items (R89, R91) -/

/-- A count that is not valid is held as 0 (R89). -/
def CountHeld (s : State) : Prop := s.seq.countValid = false → s.seq.orderCount = 0

theorem CountHeld.of_seq {s t : State} (hs : CountHeld s) (h : t.seq = s.seq) : CountHeld t := by
  unfold CountHeld
  rw [h]
  exact hs

theorem countHeld_countPoint {s : State} (hs : CountHeld s) : CountHeld (countPoint s) := by
  intro h
  have hv : s.seq.countValid = false := h
  change (if s.seq.countValid then s.seq.orderCount + 1 else s.seq.orderCount) = 0
  rw [hv]
  exact hs hv

theorem countHeld_adoptCount {s : State} (hs : CountHeld s) (f : StationField) (d : Word) (count : Option Word) :
    CountHeld (adoptCount f d count s) := by
  unfold adoptCount
  split
  · exact hs
  · split
    · intro h
      cases h
    · exact hs

theorem countHeld_enterSynced {s : State} (hs : CountHeld s) : CountHeld (enterSynced s) := by
  intro h
  simp only [enterSynced, reconcile_keeps, restartWholeGrid_keeps, State.seq_setSeq, Bool.or_eq_false_iff] at h ⊢
  rw [h.2]
  exact hs h.1

theorem answerQuery_seq (f : StationField) (q : Query) (s : State) :
    (answerQuery f q s).seq = s.seq ∨ answerQuery f q s = softRestart s := by
  cases q with
  | status _ | members _ _ =>
    simp only [answerQuery]
    split <;> exact .inl rfl
  | region _ w =>
    simp only [answerQuery, takeRegion]
    refine .inl ?_
    split
    · split
      · split <;> rfl
      · rfl
    · rfl
  | restart _ =>
    simp only [answerQuery]
    split
    · exact .inr rfl
    · exact .inl rfl

theorem countHeld_takePoint {s : State} (hs : CountHeld s) (f : StationField) (p : PointIndex) (w : WireRecord) (d : Word) :
    CountHeld (takePoint f p w d s) :=
  (countHeld_countPoint hs).of_seq (by simp [takePoint])

theorem takeOperator_seq (f : StationField) (op : Operation) (groups horizon d : Word) (s : State) :
    (takeOperator f op groups horizon d s).seq = s.seq := by
  unfold takeOperator
  split <;> simp

theorem takeJoin_seq (f : StationField) (d : Word) (s : State) : (takeJoin f d s).seq = s.seq := by
  simp only [takeJoin, hear_keeps, answerJoin]
  split <;> simp

theorem takeData_seq (f : StationField) (part : Nat) (last : Bool) (ws : List WireRecord) (s : State) :
    (takeData f part last ws s).seq = s.seq := by
  unfold takeData
  split
  · rfl
  · split
    · simp
    · split <;> simp [followPart]

theorem countHeld_takeContent {s : State} (hs : CountHeld s) (f : StationField) (content : FrameContent) :
    CountHeld (takeContent f content s) := by
  cases content with
  | point p w d => exact countHeld_takePoint hs f p w d
  | operator op g h d => exact hs.of_seq (takeOperator_seq f op g h d s)
  | join d _ => exact hs.of_seq (takeJoin_seq f d s)
  | start w total count d =>
    simp only [takeContent, takeStart]
    split
    · exact hs
    · exact countHeld_adoptCount (hs.of_seq (by simp)) f d count
  | data part last ws => exact hs.of_seq (takeData_seq f part last ws s)
  | presence d count peer =>
    refine countHeld_adoptCount (hs.of_seq ?_) f d count
    simp only [hear_keeps]
    split <;> rfl
  | query q =>
    rcases answerQuery_seq f q (hearOnly f s) with e | e
    · exact hs.of_seq (e.trans (by simp))
    · intro _
      change (answerQuery f q (hearOnly f s)).seq.orderCount = 0
      rw [e]
      rfl
  | reply _ _ _ => exact hs.of_seq (by simp [takeContent])

theorem countHeld_takePayload {s : State} (hs : CountHeld s) (cls : FrameClass) (f : StationField) (payload : List Byte) :
    CountHeld (takePayload cls f payload s) := by
  unfold takePayload
  split
  · cases cls with
    | point => exact (countHeld_countPoint hs).of_seq (by simp [takeMalformed])
    | snapshot =>
      simp only [takeMalformed]
      split
      · exact hs.of_seq (by simp)
      · exact hs
    | unassigned => exact hs
    | operator | join | presence | query | reply => exact hs.of_seq (by simp [takeMalformed])
  · exact countHeld_takeContent hs f _

/-- The items of the sequencer fit a line state (R89, R91). -/
def SequencerFits (state : LineState) (listenTimer syncTimer holdOff : Bool) (joinPending : Bool) : Prop :=
  (listenTimer = true ↔ state = .listening) ∧ (syncTimer = true ↔ state = .syncing) ∧ (holdOff = true ↔ state = .withdrawn)
    ∧ (state = .joining → joinPending = true) ∧ (joinPending = true → state = .joining ∨ state = .halted)

theorem sequencerInv_iff (s : State) :
    SequencerInv s ↔
      SequencerFits s.seq.state s.seq.listenTimer.isSome s.seq.syncTimer.isSome s.line.holdOff.isSome s.seq.joinPending ∧ CountHeld s := by
  simp only [SequencerInv, SequencerFits, CountHeld, and_assoc]

/-- The invariant speaks of the sequencer and of the hold-off. -/
theorem SequencerInv.of_seq {s t : State} (hs : SequencerInv s) (hq : t.seq = s.seq) (hl : t.line.holdOff = s.line.holdOff) :
    SequencerInv t := by
  unfold SequencerInv
  rw [hq, hl]
  exact hs

/-- Entry to SYNCED stops the sync timer (R98); the other items were at rest in SYNCING. -/
theorem sequencerInv_enterSynced {s : State} (hs : SequencerInv s) (hq : s.seq.state = .syncing) : SequencerInv (enterSynced s) := by
  obtain ⟨fits, held⟩ := (sequencerInv_iff s).1 hs
  refine (sequencerInv_iff _).2 ⟨?_, countHeld_enterSynced held⟩
  simp only [SequencerFits, hq, enterSynced, reconcile_keeps, restartWholeGrid_keeps, State.seq_setSeq, State.line_setSeq] at fits ⊢
  simp_all

theorem sequencerInv_synchronise {s : State} (hs : SequencerInv s) : SequencerInv (synchronise s) := by
  rcases synchronise_cases s with ⟨hq, -, -, e⟩ | e <;> rw [e]
  · exact sequencerInv_enterSynced hs hq
  · exact hs

theorem sequencerInv_settleMembership {s : State} (hs : SequencerInv s) : SequencerInv (settleMembership s) :=
  (sequencerInv_synchronise hs).of_seq (by simp) (by simp)

/-- Entry to LISTENING sets every item of the sequencer; the hold-off runs no more (R91). -/
theorem sequencerInv_of_listening {t : State} {reason : JoinReason} {ms : Nat} (hl : t.line.holdOff = none)
    (hq : t.seq = { state := .listening, joinReason := reason, listenTimer := some ms, syncTimer := none, joinPending := false,
                    orderCount := 0, countValid := false, pointHeard := false }) : SequencerInv t := by
  unfold SequencerInv
  rw [hq, hl]
  simp

theorem SequencerInv.holdOff_none {s : State} (hs : SequencerInv s) (h : s.seq.state ≠ .withdrawn) : s.line.holdOff = none := by
  obtain ⟨-, -, holdOff, -⟩ := hs
  cases hh : s.line.holdOff with
  | none => rfl
  | some ms => exact absurd (holdOff.1 (by rw [hh]; rfl)) h

theorem sequencerInv_takePayload {s : State} (hs : SequencerInv s) (hr : receives s.seq.state = true) (cls : FrameClass)
    (f : StationField) (payload : List Byte) : SequencerInv (takePayload cls f payload s) := by
  have held := countHeld_takePayload ((sequencerInv_iff s).1 hs).2 cls f payload
  rcases takePayload_cases cls f payload s with ⟨_, -, -, e⟩ | h
  · rw [e]
    refine sequencerInv_of_listening ?_ rfl
    simp only [softRestart_keeps, hearOnly_keeps]
    exact hs.holdOff_none fun h => by rw [h] at hr; cases hr
  · refine (sequencerInv_iff _).2 ⟨?_, held⟩
    rw [h.lineState, h.listenTimer, h.syncTimer, h.joinPending, h.line]
    exact ((sequencerInv_iff s).1 hs).1

theorem sequencerInv_joinSent {s : State} (hs : SequencerInv s) : SequencerInv (joinSent s) := by
  have syncing (hq : s.seq.state = .joining) :
      SequencerInv (s.setSeq { s.seq with state := .syncing, joinPending := false, syncTimer := some (syncMs s.cfg) }) := by
    simp_all [SequencerInv]
  unfold joinSent
  split
  · next hq =>
    split
    · exact syncing hq
    · exact sequencerInv_enterSynced (syncing hq) rfl
  · next hq =>
    obtain ⟨listenTimer, syncTimer, holdOff, -, -, held⟩ := hs
    exact ⟨listenTimer, syncTimer, holdOff, fun h => absurd h hq, fun h => (by cases h), held⟩

theorem sequencerInv_takeOwn {s : State} (hs : SequencerInv s) (content : FrameContent) : SequencerInv (takeOwn content s) := by
  cases content with
  | point p w d =>
    have h := takenFrame_takePoint (sentField s) p w d s
    have held := countHeld_takePoint ((sequencerInv_iff s).1 hs).2 (sentField s) p w d
    have taken : SequencerInv (takePoint (sentField s) p w d s) := by
      refine (sequencerInv_iff _).2 ⟨?_, held⟩
      rw [h.lineState, h.listenTimer, h.syncTimer, h.joinPending, h.line]
      exact ((sequencerInv_iff s).1 hs).1
    exact taken.of_seq (by simp [takeOwn]) (by simp [takeOwn])
  | operator op g hz d => exact hs.of_seq (takeOperator_seq _ op g hz d s) (by simp)
  | join _ _ => exact sequencerInv_joinSent hs
  | start _ _ _ _ | data _ _ _ | presence _ _ _ | query _ | reply _ _ _ => exact hs.of_seq rfl rfl

theorem sequencerInv_of_enterHalted {s : State} (hs : SequencerInv s) : SequencerInv (enterHalted s) := by
  obtain ⟨-, -, -, -, -, held⟩ := hs
  simp only [SequencerInv, enterHalted]
  simpa using held

theorem sequencerInv_effect {s t : State} {c : Instr} (hs : SequencerInv s) (h : Effect s c t) : SequencerInv t := by
  cases h with
  | nothing => exact hs
  | reset => simp [SequencerInv, takeHardwareReset, State.reset]
  | imageRefused _ off =>
    obtain ⟨-, -, -, -, -, held⟩ := id hs
    simp_all [SequencerInv, refuseImage]
  | imageAccepted cfg _ off => exact sequencerInv_of_listening (by simpa using hs.holdOff_none (by simp [off])) (by simp; exact ⟨rfl, rfl⟩)
  | mismatchHalts a live =>
    have failed : SequencerInv (failedAttempt (s.line.mismatches + 1) s) := hs.of_seq (by simp) (by simp)
    exact (sequencerInv_of_enterHalted failed).of_seq (by simp) (by simp)
  | attemptFailed _ a mismatches live =>
    rcases afterFailure_cases (failedAttempt mismatches s) with ⟨-, e⟩ | ⟨-, e⟩ <;> rw [e]
    · simp [SequencerInv, enterWithdrawn]
    · exact hs.of_seq (by simp) (by simp)
  | ownFrame a =>
    have sent : SequencerInv (frameSent a s) := hs.of_seq (by simp) (by simp)
    exact (sequencerInv_takeOwn sent a.content).of_seq (by simp) (by simp)
  | frameHalts =>
    have listening : SequencerInv (listeningFrame (gapSeen s)) := hs.of_seq (by simp) (by simp)
    exact (sequencerInv_of_enterHalted listening).of_seq (by simp) (by simp)
  | frameTaken _ cls heading payload _ heard =>
    have listening : SequencerInv (listeningFrame (gapSeen s)) := hs.of_seq (by simp) (by simp)
    exact sequencerInv_settleMembership
      (sequencerInv_takePayload listening (by simpa using receives_of_hears heard) cls heading.sender payload)
  | listenExpired state =>
    obtain ⟨-, -, -, -, -, held⟩ := id hs
    simp_all [SequencerInv]
  | syncExpired state =>
    have moment : SequencerInv (newMoment s) := hs.of_seq (by simp) (by simp)
    exact (sequencerInv_enterSynced moment (by simpa using state)).of_seq (by simp) (by simp)
  | holdOffExpired => exact sequencerInv_of_listening (by simp [awaitGap]) (by simp [enterListening]; exact ⟨rfl, rfl⟩)
  | stationAbsent => exact sequencerInv_settleMembership (hs.of_seq (by simp) (by simp))
  | supplyRose | released | imageRead | attemptStarted | arbitrationLost | frameFaulty | frameDiscarded | repairExpired
  | presenceExpired | activityExpired | testExpired | fieldPinSet | lineSampled | lineSettled | buttonPinSet | buttonSampled
  | buttonSettled => exact hs.of_seq (by simp) (by simp)

/-- A running timer runs on through a millisecond, down to 0. -/
theorem sequencerInv_tick {s : State} (hs : SequencerInv s) : SequencerInv (tick s) := by
  simpa [SequencerInv, tick, beginSlot, passMillisecond, countDown] using hs

/-! ## The reset and the load (R187 to R189) -/

/-- OFF is entered by hardware reset and left by the checks alone, and HALTED left by hardware reset alone (section 5.1). -/
theorem off_iff_of_lineStateMayPass {c : Instr} (hr : isHardwareReset c = false) (hc : c ≠ .loadChecksComplete) {a b : LineState}
    (h : lineStateMayPass c a b = true) : (b = .off ↔ a = .off) ∧ (a = .halted → b = .halted) := by
  revert h
  cases a <;> cases b <;> simp [lineStateMayPass, hr, hc]

theorem ResetInv.of_kept {s t : State} (hs : ResetInv s) (hl : t.loader = s.loader) (hh : t.hold = s.hold)
    (hq : (t.seq.state = .off ↔ s.seq.state = .off) ∧ (s.seq.state = .halted → t.seq.state = .halted)) : ResetInv t := by
  obtain ⟨held, powered, off, refused, digest⟩ := hs
  unfold ResetInv
  rw [hl, hh, hq.1]
  exact ⟨held, powered, off, fun h => hq.2 (refused h), digest⟩

theorem ResetInv.of_state {s t : State} (hs : ResetInv s) (hl : t.loader = s.loader) (hh : t.hold = s.hold)
    (hq : t.seq.state = s.seq.state) : ResetInv t :=
  hs.of_kept hl hh (by rw [hq]; exact ⟨.rfl, id⟩)

theorem resetInv_released {s : State} (hs : ResetInv s) (held : s.loader.state = .held) (source : ResetSource) :
    ResetInv (released source s) := by
  obtain ⟨-, powered, off, -, digest⟩ := hs
  unfold released
  split
  · next h =>
    have hb : (letGo source s.hold).bySupply = true ∨ (letGo source s.hold).byPin = true := by simpa using h
    refine ⟨by simpa [held] using hb, ?_, off, by simp [held], digest⟩
    cases source with
    | supply => simp [letGo]
    | pin => simp_all [letGo]
  · next h =>
    simp only [Bool.or_eq_true, not_or, Bool.not_eq_true] at h
    refine ⟨by simp [beginReading, h.1, h.2], ?_, ?_, by simp [beginReading], by simp_all [beginReading]⟩
    · cases source with
      | supply => simp [beginReading, letGo]
      | pin => simp_all [beginReading, letGo]
    · simp_all [beginReading]

theorem resetInv_effect {s t : State} {c : Instr} (hs : ResetInv s) (h : Effect s c t) : ResetInv t := by
  have pass := effect_lineState h
  cases h with
  | nothing => exact hs
  | reset _ source =>
    obtain ⟨-, powered, -⟩ := hs
    cases source <;> simp_all [ResetInv, takeHardwareReset, State.reset, holdBy]
  | supplyRose =>
    unfold supplyRisen
    split
    · obtain ⟨held, -, off, refused, digest⟩ := hs
      exact ⟨held, fun h => (by cases h), off, refused, digest⟩
    · exact hs
  | released _ stn rate source held =>
    exact resetInv_released (s := s.setPins { s.pins with stn := stn, rate := rate }) hs held source
  | imageRead _ reading =>
    obtain ⟨held, powered, off, -, digest⟩ := hs
    simp_all [ResetInv]
  | imageRefused checking off =>
    obtain ⟨held, powered, -⟩ := hs
    simp_all [ResetInv, refuseImage]
  | imageAccepted cfg checking off =>
    obtain ⟨held, powered, -⟩ := hs
    simp_all [ResetInv]
  | mismatchHalts | ownFrame | listenExpired | syncExpired | holdOffExpired | stationAbsent =>
    exact hs.of_kept (by simp) (by simp) (off_iff_of_lineStateMayPass rfl (by simp) pass)
  | attemptFailed _ _ _ _ cause =>
    refine hs.of_kept (by simp) (by simp) (off_iff_of_lineStateMayPass ?_ ?_ pass) <;>
      rcases cause with ⟨rfl, -⟩ | ⟨rfl, -⟩ <;> simp [isHardwareReset]
  | frameHalts _ _ _ _ frame =>
    refine hs.of_kept (by simp) (by simp) (off_iff_of_lineStateMayPass ?_ ?_ pass)
    · revert frame
      cases c <;> simp [deliveredFrame, isHardwareReset]
    · rintro rfl
      cases frame
  | frameTaken _ _ _ _ frame =>
    refine hs.of_kept (by simp) (by simp) (off_iff_of_lineStateMayPass ?_ ?_ pass)
    · revert frame
      cases c <;> simp [deliveredFrame, isHardwareReset]
    · rintro rfl
      cases frame
  | attemptStarted | arbitrationLost | frameFaulty | frameDiscarded | repairExpired | presenceExpired | activityExpired | testExpired
  | fieldPinSet | lineSampled | lineSettled | buttonPinSet | buttonSampled | buttonSettled =>
    exact hs.of_state (by simp) (by simp) (by simp)

/-- Settles O55: each of the four invariants is kept by every effect and by the millisecond. -/
theorem lineItemsFitTheLineState : Obligations.LineItemsFitTheLineState :=
  ⟨⟨step_keeps_of_effect (fun _ _ h => h) (fun _ => attemptInv_tick) fun _ _ _ => attemptInv_effect,
      step_keeps_of_effect (fun _ _ h => h) (fun _ h => h) fun _ _ _ => failureInv_effect⟩,
    step_keeps_of_effect (fun _ _ h => h) (fun _ => sequencerInv_tick) fun _ _ _ => sequencerInv_effect,
    step_keeps_of_effect (fun _ _ h => h) (fun _ h => h) fun _ _ _ => resetInv_effect⟩

end Sys2Proof.Machine
end

section
/-! PROOFS. LOST marking through every step: own points are known, unused points QUIET (R4, R5, R21), and the points of a station held ABSENT or
MISMATCH are LOST (R79). -/

namespace Sys2Proof.Machine

open Sys2Proof

/-! ## Records point by point -/

@[simp] theorem unflag_state (r : PointRecord) : (unflag r).state = r.state := rfl

@[simp] theorem lose_state (r : PointRecord) : (lose r).state = .lost := by
  unfold lose
  split
  · assumption
  all_goals rfl

theorem impliedLevel_eq_none (state : PointState) : impliedLevel state = none ↔ state = .lost := by cases state <;> decide

/-- ACK, SILENCE and RESET keep the level a record stands for (R5, R10 to R12). -/
theorem impliedLevel_operate (op : Operation) (horizon : Word) (ringback : Bool) (r : PointRecord) :
    impliedLevel (operate op horizon ringback r).state = impliedLevel r.state := by
  cases op with
  | ack =>
    by_cases hw : (horizon - r.alertMark).toNat < 32768
    · rw [operate, acknowledge_within hw]
      split
      · next h => rw [h]; rfl
      · split
        · next h =>
          rw [h]
          split <;> rfl
        · rfl
    · rw [operate, acknowledge_beyond hw]
  | silence =>
    rw [operate, silence_eq]
    split <;> rfl
  | reset =>
    rw [operate, resetPoint_eq]
    split
    · next h => rw [h]; rfl
    · rfl

/-- A record carried by a frame is never LOST (R18). -/
theorem recordOfWire_state {w : WireRecord} {r : PointRecord} (h : recordOfWire w = some r) : r.state ≠ .lost := by
  unfold recordOfWire at h
  split at h
  · cases h
  · cases h
  · next state hne _ =>
    cases h
    exact fun h => hne (by simp_all)

/-- A write leaves every other record as it is, but for a rival's flag, and at its point the record's state (R24). -/
theorem writeRecord_get (cfg : Configuration) (records : Records) (p : PointIndex) (r : PointRecord) :
    (writeRecord cfg records p r)[p].state = r.state
      ∧ ∀ x : PointIndex, x ≠ p →
          (writeRecord cfg records p r)[x] = records[x]
            ∨ (isUsed cfg x = true ∧ (writeRecord cfg records p r)[x] = unflag records[x]) := by
  rcases writeRecord_cases cfg records p r with ⟨e, -⟩ | e | ⟨q, hq, e⟩ <;> rw [e]
  · exact ⟨by rw [set_get_self], fun x hx => .inl (set_get_other _ _ _ _ hx)⟩
  · exact ⟨by rw [set_get_self, unflag_state], fun x hx => .inl (set_get_other _ _ _ _ hx)⟩
  · obtain ⟨hqp, hqu, -⟩ := rivalOf_some hq
    refine ⟨by rw [set_get_other _ _ _ _ hqp.symm, set_get_self], fun x hx => ?_⟩
    by_cases hxq : x = q
    · subst hxq
      exact .inr ⟨hqu, set_get_self _ _ _⟩
    · exact .inl ((set_get_other _ _ _ _ hxq).trans (set_get_other _ _ _ _ hx))

theorem writeRecord_state (cfg : Configuration) (records : Records) (p x : PointIndex) (r : PointRecord) :
    (writeRecord cfg records p r)[x].state = if x = p then r.state else records[x].state := by
  obtain ⟨written, others⟩ := writeRecord_get cfg records p r
  split
  · next h => rw [h, written]
  · next h => rcases others x h with e | ⟨-, e⟩ <;> rw [e]; rfl

theorem writeRecord_unused (cfg : Configuration) (records : Records) {p x : PointIndex} (r : PointRecord) (hp : isUsed cfg p = true)
    (hx : isUsed cfg x = false) : (writeRecord cfg records p r)[x] = records[x] := by
  have hne : x ≠ p := fun e => by rw [e, hp] at hx; cases hx
  rcases (writeRecord_get cfg records p r).2 x hne with e | ⟨hu, -⟩
  · exact e
  · rw [hx] at hu
    cases hu

/-! ## Ownership -/

theorem isOwn_iff (cfg : Configuration) (p : PointIndex) :
    isOwn cfg p = true ↔ cfg.points[p].owner.isSome = true ∧ cfg.points[p].owner = cfg.self := by
  simp only [isOwn, ownPoint, Bool.and_eq_true, beq_iff_eq]

theorem ownedBy_iff (cfg : Configuration) (n : Station) (p : PointIndex) : ownedBy cfg n p = true ↔ cfg.points[p].owner = some n := by
  simp only [ownedBy, ownerIs, beq_iff_eq]

theorem isUsed_of_isOwn {cfg : Configuration} {p : PointIndex} (h : isOwn cfg p = true) : isUsed cfg p = true :=
  ((isOwn_iff cfg p).1 h).1

theorem isUsed_of_ownedBy {cfg : Configuration} {n : Station} {p : PointIndex} (h : ownedBy cfg n p = true) : isUsed cfg p = true := by
  rw [isUsed, usedPoint, (ownedBy_iff cfg n p).1 h]
  rfl

/-- A point of another station is not the station's own. -/
theorem isOwn_of_other {cfg : Configuration} {n : Station} {p : PointIndex} (h : cfg.points[p].owner = some n) (hn : cfg.self ≠ some n) :
    isOwn cfg p = false := by
  rw [← Bool.not_eq_true, isOwn_iff, h]
  exact fun e => hn e.2.symm

/-- A numbered sender of a frame that does not carry the station's own number is another station. -/
theorem other_of_ownField {s : State} {f : StationField} (h : ownField s ≠ some f) (n : Station) (hf : stationOfField f = some n) :
    s.cfg.self ≠ some n := by
  intro e
  apply h
  rw [fieldOf_of_stationOfField hf, ownField, e]
  rfl

/-- The number a station sends names the station itself. -/
@[simp] theorem stationOfField_sentField (s : State) : stationOfField (sentField s) = s.cfg.self := by
  unfold sentField ownField
  cases s.cfg.self with
  | none => rfl
  | some n => simp

/-- A station's own frame reaches no membership entry (R70). -/
theorem hear_own {s : State} {f : StationField} (hf : stationOfField f = s.cfg.self) (h : Heard) (o : DigestOutcome) (d : Option Word) :
    hear f h o d s = s := by
  unfold hear
  split
  · rfl
  · next n hn =>
    rw [if_pos (by rw [← hf, hn])]

/-- The sender takes its own POINT frame without hearing it (R17, R70). -/
theorem takePoint_own {s : State} {f : StationField} (hf : stationOfField f = s.cfg.self) (p : PointIndex) (w : WireRecord) (d : Word) :
    takePoint f p w d s = writePoint f p w d (countPoint s) := by
  rw [takePoint, hear_own (by simpa using hf)]

theorem takeOperator_own {s : State} {f : StationField} (hf : stationOfField f = s.cfg.self) (op : Operation)
    (groups horizon d : Word) :
    takeOperator f op groups horizon d s
      = if digestMatches s d then raise classOperatorAny (s.setPoints (operateGroups s.cfg op groups horizon s.points)) else s := by
  rw [takeOperator, hear_own hf, hear_own hf]

/-- What a POINT frame's write does: nothing, or the tie rule's write of a record that is not LOST at a point of its sender (R16, R18). -/
theorem writePoint_cases (f : StationField) (p : PointIndex) (w : WireRecord) (d : Word) (s : State) :
    (∃ n r, stationOfField f = some n ∧ digestMatches s d = true ∧ s.cfg.points[p].owner = some n ∧ recordOfWire w = some r
        ∧ writePoint f p w d s
            = raise (alertClasses s.cfg p s.points[p].state r.state) (s.setPoints (writeRecord s.cfg s.points p r)))
      ∨ writePoint f p w d s = s := by
  unfold writePoint
  split
  · exact .inr rfl
  · next n hf =>
    split
    · next h =>
      simp only [Bool.and_eq_true, ownedBy_iff] at h
      split
      · exact .inr rfl
      · next r hr => exact .inl ⟨n, r, hf, h.1, h.2, hr, rfl⟩
    · exact .inr rfl

/-- A part's records are written at points of its sender (R111). -/
theorem mem_pointsFrom {cfg : Configuration} {n : Station} {w : Window} {cursor : Option PointIndex} {p : PointIndex}
    (h : p ∈ pointsFrom cfg (some n) w cursor) : cfg.points[p].owner = some n := by
  unfold pointsFrom at h
  split at h
  · cases h
  · exact ((mem_pointsInWindow cfg (some n) w p).1 (List.mem_filter.1 h).1).2.1

/-! ## Changes of the table that leave own and unused points their state -/

/-- Own points stand for the level they stood for, and unused points are as they were. -/
def KeepsOwn (cfg : Configuration) (records records' : Records) : Prop :=
  ∀ p : PointIndex, (isOwn cfg p = true → impliedLevel records'[p].state = impliedLevel records[p].state)
    ∧ (isUsed cfg p = false → records'[p] = records[p])

theorem KeepsOwn.refl (cfg : Configuration) (records : Records) : KeepsOwn cfg records records := fun _ => ⟨fun _ => rfl, fun _ => rfl⟩

theorem KeepsOwn.trans {cfg : Configuration} {a b c : Records} (h : KeepsOwn cfg a b) (g : KeepsOwn cfg b c) : KeepsOwn cfg a c :=
  fun p => ⟨fun hp => ((g p).1 hp).trans ((h p).1 hp), fun hp => ((g p).2 hp).trans ((h p).2 hp)⟩

theorem keepsOwn_loseOthers (cfg : Configuration) (records : Records) : KeepsOwn cfg records (loseOthers cfg records) := by
  intro p
  rw [loseOthers_get]
  exact ⟨fun h => by simp [h], fun h => by simp [h]⟩

theorem keepsOwn_loseOwner (cfg : Configuration) (n : Station) (records : Records) : KeepsOwn cfg records (loseOwner cfg n records) := by
  intro p
  rw [loseOwner_get]
  refine ⟨fun h => by simp [h], fun h => ?_⟩
  have ho : ownedBy cfg n p = false := by
    rw [← Bool.not_eq_true]
    intro g
    rw [isUsed_of_ownedBy g] at h
    cases h
  simp [ho]

theorem keepsOwn_operateGroups (cfg : Configuration) (op : Operation) (groups horizon : Word) (records : Records) :
    KeepsOwn cfg records (operateGroups cfg op groups horizon records) := by
  intro p
  rw [operateGroups_get]
  refine ⟨fun _ => ?_, fun h => by simp [h]⟩
  split
  · exact impliedLevel_operate _ _ _ _
  · rfl

theorem keepsOwn_writeRecord {cfg : Configuration} {p : PointIndex} {n : Station} (hp : cfg.points[p].owner = some n)
    (hn : cfg.self ≠ some n) (records : Records) (r : PointRecord) : KeepsOwn cfg records (writeRecord cfg records p r) := by
  intro x
  refine ⟨fun hx => ?_, writeRecord_unused cfg records r (isUsed_of_ownedBy ((ownedBy_iff cfg n p).2 hp))⟩
  have hne : x ≠ p := fun e => by rw [e, isOwn_of_other hp hn] at hx; cases hx
  rw [writeRecord_state, if_neg hne]

theorem keepsOwn_writeCarried {cfg : Configuration} {p : PointIndex} {n : Station} (hp : cfg.points[p].owner = some n)
    (hn : cfg.self ≠ some n) (records : Records) (w : WireRecord) : KeepsOwn cfg records (writeCarried cfg records p w) := by
  unfold writeCarried
  split
  · exact .refl cfg records
  · exact keepsOwn_writeRecord hp hn records _

theorem keepsOwn_writePart {cfg : Configuration} {n : Station} (hn : cfg.self ≠ some n) (c : ReceiveContext) (ws : List WireRecord)
    (records : Records) : KeepsOwn cfg records (writePart cfg n c ws records) := by
  unfold writePart
  have owned : ∀ pw ∈ (pointsFrom cfg (some n) c.window c.cursor).zip ws, cfg.points[pw.1].owner = some n :=
    fun pw h => mem_pointsFrom (List.of_mem_zip h).1
  generalize (pointsFrom cfg (some n) c.window c.cursor).zip ws = rows at owned
  induction rows generalizing records with
  | nil => exact .refl cfg records
  | cons pw rest ih =>
    exact (keepsOwn_writeCarried (owned pw List.mem_cons_self) hn records pw.2).trans
      (ih _ fun x h => owned x (List.mem_cons_of_mem pw h))

/-! ## What a frame of another sender does to them -/

theorem keepsOwn_moveEntry (n : Station) (e : MemberEntry) (s : State) : KeepsOwn s.cfg s.points (moveEntry n e s).points := by
  rw [moveEntry_points]
  split
  · exact keepsOwn_loseOwner s.cfg n s.points
  · exact .refl _ _

theorem keepsOwn_hear (f : StationField) (h : Heard) (o : DigestOutcome) (d : Option Word) (s : State) :
    KeepsOwn s.cfg s.points (hear f h o d s).points := by
  unfold hear
  split
  · exact .refl _ _
  · split
    · exact .refl _ _
    · exact keepsOwn_moveEntry _ _ s

theorem keepsOwn_writePoint {f : StationField} {s : State} (hf : ∀ n, stationOfField f = some n → s.cfg.self ≠ some n) (p : PointIndex)
    (w : WireRecord) (d : Word) : KeepsOwn s.cfg s.points (writePoint f p w d s).points := by
  rcases writePoint_cases f p w d s with ⟨n, r, hn, -, hp, -, e⟩ | e <;> rw [e]
  · exact keepsOwn_writeRecord hp (hf n hn) s.points r
  · exact .refl _ _

theorem takeRegion_points (w : Window) (s : State) : (takeRegion w s).points = s.points := (sameTable_takeRegion w s).2

theorem softRestart_points (s : State) : (softRestart s).points = loseOthers s.cfg s.points := rfl

theorem keepsOwn_answerQuery (f : StationField) (q : Query) (s : State) : KeepsOwn s.cfg s.points (answerQuery f q s).points := by
  cases q with
  | status _ | members _ _ =>
    simp only [answerQuery]
    split <;> exact .refl _ _
  | region _ w =>
    simp only [answerQuery]
    split
    · rw [takeRegion_points]; exact .refl _ _
    · exact .refl _ _
  | restart _ =>
    simp only [answerQuery]
    split
    · exact keepsOwn_loseOthers s.cfg s.points
    · exact .refl _ _

theorem keepsOwn_takeContent {f : StationField} {s : State} (hf : ∀ n, stationOfField f = some n → s.cfg.self ≠ some n)
    (content : FrameContent) : KeepsOwn s.cfg s.points (takeContent f content s).points := by
  cases content with
  | point p w d =>
    have written := keepsOwn_writePoint (s := hear f .pointOrOperator (judgeDigest s d) (some d) (countPoint s)) (by simpa using hf) p w d
    simp only [hear_keeps, countPoint_keeps] at written
    exact (keepsOwn_hear f .pointOrOperator (judgeDigest s d) (some d) (countPoint s)).trans written
  | operator op g h d =>
    simp only [takeContent, takeOperator]
    split
    · refine (keepsOwn_hear f .pointOrOperator .same (some d) s).trans ?_
      simpa using keepsOwn_operateGroups s.cfg op g h (hear f .pointOrOperator .same (some d) s).points
    · exact keepsOwn_hear f _ _ _ s
  | join d _ =>
    obtain ⟨hcfg, hpoints⟩ := sameTable_answerJoin f d s
    have heard := keepsOwn_hear f .join (judgeDigest s d) (some d) (answerJoin f d s)
    rwa [hcfg, hpoints] at heard
  | start w total count d =>
    simp only [takeContent, takeStart]
    split
    · exact .refl _ _
    · simpa using keepsOwn_hear f _ _ _ (setContext _ _ s)
  | data part last ws =>
    simp only [takeContent, takeData]
    split
    · exact .refl _ _
    · next n hn =>
      split
      · simpa using keepsOwn_hear f _ _ _ (dropTransfer n s)
      · next c _ =>
        split
        · exact (keepsOwn_writePart (hf n hn) c ws s.points).trans (keepsOwn_hear f _ _ _ (followPart n c ws s))
        · simpa using keepsOwn_hear f _ _ _ (dropTransfer n s)
  | presence d count peer =>
    simp only [takeContent, takePresence, adoptCount_keeps]
    split
    · exact keepsOwn_hear f _ _ _ (countDisagreement s)
    · exact keepsOwn_hear f _ _ _ s
  | query q =>
    have answered := keepsOwn_answerQuery f q (hearOnly f s)
    rw [(hearOnly_keeps f s).2.2.2.1] at answered
    exact (keepsOwn_hear f .queryReplyOrMalformed .unjudged none s).trans answered
  | reply _ _ _ => exact keepsOwn_hear f _ _ _ s

theorem takeMalformed_points (cls : FrameClass) (f : StationField) (s : State) :
    KeepsOwn s.cfg s.points (takeMalformed cls f s).points := by
  cases cls with
  | unassigned => exact .refl _ _
  | snapshot =>
    simp only [takeMalformed]
    split
    · exact keepsOwn_hear f _ _ _ (dropTransfer _ s)
    · exact .refl _ _
  | point => exact keepsOwn_hear f _ _ _ (countPoint s)
  | operator | join | presence | query | reply => exact keepsOwn_hear f _ _ _ s

theorem keepsOwn_takePayload {f : StationField} {s : State} (hf : ∀ n, stationOfField f = some n → s.cfg.self ≠ some n)
    (cls : FrameClass) (payload : List Byte) : KeepsOwn s.cfg s.points (takePayload cls f payload s).points := by
  unfold takePayload
  split
  · exact takeMalformed_points cls f s
  · exact keepsOwn_takeContent hf _

/-- What every effect but hardware reset, the load and the end of an own POINT frame does to own and unused points. -/
theorem keepsOwn_effect {s t : State} {c : Instr} (h : Effect s c t) :
    (t.cfg = s.cfg ∧ KeepsOwn s.cfg s.points t.points) ∨ (∃ source, t = takeHardwareReset source s) ∨ t = refuseImage s
      ∨ (∃ cfg, t = acceptImage cfg s)
      ∨ ∃ a p w d, liveAttempt s = some a ∧ a.content = .point p w d
          ∧ t = settle (repairTest (takeOwn a.content (frameSent a s))) := by
  cases h with
  | reset _ source => exact .inr (.inl ⟨source, rfl⟩)
  | imageRefused => exact .inr (.inr (.inl rfl))
  | imageAccepted cfg => exact .inr (.inr (.inr (.inl ⟨cfg, rfl⟩)))
  | frameTaken _ cls heading payload _ _ other =>
    refine .inl ⟨by simp, ?_⟩
    simpa using keepsOwn_takePayload (s := listeningFrame (gapSeen s)) (by simpa using other_of_ownField other) cls payload
  | attemptFailed _ _ mismatches =>
    refine .inl ⟨by simp, ?_⟩
    rcases afterFailure_cases (failedAttempt mismatches s) with ⟨-, e⟩ | ⟨-, e⟩ <;> rw [e]
    · simpa [enterWithdrawn] using keepsOwn_loseOthers s.cfg s.points
    · simpa using KeepsOwn.refl s.cfg s.points
  | ownFrame a live =>
    cases hc : a.content with
    | point p w d => exact .inr (.inr (.inr (.inr ⟨a, p, w, d, live, hc, by rw [hc]⟩)))
    | operator op g hz d =>
      refine .inl ⟨by simp, ?_⟩
      have e := takeOperator_own (s := frameSent a s) (stationOfField_sentField _) op g hz d
      simp only [settle_keeps, repairTest_keeps, takeOwn, State.points_setPanel, e]
      split
      · simpa using keepsOwn_operateGroups s.cfg op g hz s.points
      · simpa using KeepsOwn.refl s.cfg s.points
    | join _ _ | start _ _ _ _ | data _ _ _ | presence _ _ _ | query _ | reply _ _ _ =>
      exact .inl ⟨by simp, by simpa [takeOwn] using KeepsOwn.refl s.cfg s.points⟩
  | holdOffExpired => exact .inl ⟨by simp, by simpa [enterListening] using keepsOwn_loseOthers s.cfg s.points⟩
  | stationAbsent n =>
    exact .inl ⟨by simp, by
      simpa using keepsOwn_moveEntry n { state := .absent, ageMs := 0, lastDigest := s.members.entries[n].lastDigest } (newMoment s)⟩
  | nothing | supplyRose | released | imageRead | attemptStarted | arbitrationLost | mismatchHalts | frameFaulty | frameDiscarded
  | frameHalts | listenExpired | syncExpired | repairExpired | presenceExpired | activityExpired | testExpired | fieldPinSet
  | lineSampled | lineSettled | buttonPinSet | buttonSampled | buttonSettled =>
    exact .inl ⟨by simp, by simpa using KeepsOwn.refl s.cfg s.points⟩

/-! ## Own points are known (R5, R21) -/

/-- The points as the end of an own POINT frame leaves them: as they were, or a record that is not LOST written at an own point (R17). -/
theorem ownPoint_points (a : Attempt) (p : PointIndex) (w : WireRecord) (d : Word) (s : State) :
    (settle (repairTest (takeOwn (.point p w d) (frameSent a s)))).points = s.points
      ∨ ∃ r, isOwn s.cfg p = true ∧ recordOfWire w = some r
          ∧ (settle (repairTest (takeOwn (.point p w d) (frameSent a s)))).points = writeRecord s.cfg s.points p r := by
  simp only [settle_keeps, repairTest_keeps, takeOwn, reconcile_keeps, State.points_setScanner, takePoint_own (stationOfField_sentField _)]
  rcases writePoint_cases (sentField (frameSent a s)) p w d (countPoint (frameSent a s)) with ⟨n, r, hn, -, hp, hr, e⟩ | e
  · right
    refine ⟨r, (isOwn_iff _ _).2 ?_, hr, by simp [e]⟩
    simp only [stationOfField_sentField, frameSent_keeps, countPoint_keeps] at hn hp
    rw [hp, hn]
    exact ⟨rfl, rfl⟩
  · left
    simp [e]

theorem OwnKnownInv.of_keepsOwn {s t : State} (hs : OwnKnownInv s) (hc : t.cfg = s.cfg) (h : KeepsOwn s.cfg s.points t.points) :
    OwnKnownInv t := by
  intro p hp
  rw [hc] at hp
  rw [Ne, ← impliedLevel_eq_none, (h p).1 hp, impliedLevel_eq_none]
  exact hs p hp

theorem isOwn_blank (p : PointIndex) : isOwn blankConfiguration p = false := by
  simp [isOwn, ownPoint, blankConfiguration]

theorem ownKnownInv_of_blank {t : State} (h : t.cfg = blankConfiguration) : OwnKnownInv t := by
  intro p hp
  rw [h, isOwn_blank] at hp
  cases hp

/-- The point table at acceptance, behind the entry to LISTENING (R26). -/
theorem acceptImage_points (cfg : Configuration) (s : State) :
    (acceptImage cfg s).points = loseOthers cfg (startingRecords cfg) := by simp [acceptImage, enterListening]

theorem acceptImage_points_get (cfg : Configuration) (s : State) (p : PointIndex) :
    (acceptImage cfg s).points[p] = if isUsed cfg p && !isOwn cfg p then lose quietRecord else quietRecord := by
  rw [acceptImage_points, loseOthers_get, startingRecords_get]
  cases isUsed cfg p <;> cases isOwn cfg p <;> rfl

theorem ownKnownInv_acceptImage (cfg : Configuration) (s : State) : OwnKnownInv (acceptImage cfg s) := by
  intro p hp
  simp only [acceptImage_keeps] at hp
  rw [acceptImage_points_get, hp]
  simp [quietRecord]

theorem ownKnownInv_effect {s t : State} {c : Instr} (hs : OwnKnownInv s) (h : Effect s c t) : OwnKnownInv t := by
  rcases keepsOwn_effect h with ⟨hc, kept⟩ | ⟨source, rfl⟩ | rfl | ⟨cfg, rfl⟩ | ⟨a, p, w, d, -, hc, rfl⟩
  · exact hs.of_keepsOwn hc kept
  · exact ownKnownInv_of_blank rfl
  · exact ownKnownInv_of_blank rfl
  · exact ownKnownInv_acceptImage cfg s
  · rw [hc]
    intro x hx
    simp only [settle_keeps, repairTest_keeps, takeOwn_keeps, frameSent_keeps] at hx
    rcases ownPoint_points a p w d s with e | ⟨r, -, hr, e⟩
    · rw [e]; exact hs x hx
    · rw [e, writeRecord_state]
      split
      · exact recordOfWire_state hr
      · exact hs x hx

end Sys2Proof.Machine
end

section
/-! PROOFS. LOST marking through every step, continued: unused points are QUIET (R4, R26), and the points of a station held ABSENT or MISMATCH are
LOST (R21, R79). -/

namespace Sys2Proof.Machine

open Sys2Proof

/-! ## A station that is OFF -/

/-- In OFF nothing but a hardware reset and the load touches the transfers, nothing starts an attempt, and the load alone brings another state (R90,
R197, R198). -/
theorem effect_in_off {s t : State} {c : Instr} (h : Effect s c t) (hs : s.seq.state = .off) :
    (t.seq.state = .off ∧ t.transfer = s.transfer ∧ t.line.attempt = s.line.attempt) ∨ (∃ source, t = takeHardwareReset source s) ∨ t = refuseImage s
      ∨ ∃ cfg, t = acceptImage cfg s := by
  have pass := effect_lineState h
  have silent : ∀ a, liveAttempt s ≠ some a := fun a live => by
    have := (transmits_of_liveAttempt live).1
    rw [hs] at this
    cases this
  have deaf : ∀ gap, hears gap s ≠ true := fun gap heard => by
    have := receives_of_hears heard
    rw [hs] at this
    cases this
  cases h with
  | imageRefused => exact .inr (.inr (.inl rfl))
  | imageAccepted cfg => exact .inr (.inr (.inr ⟨cfg, rfl⟩))
  | reset _ source => exact .inr (.inl ⟨source, rfl⟩)
  | arbitrationLost a live | mismatchHalts a live | attemptFailed _ a _ live | ownFrame a live => exact absurd live (silent a)
  | frameFaulty _ heard | frameDiscarded _ _ heard | frameHalts _ _ _ _ _ heard | frameTaken _ _ _ _ _ heard =>
    exact absurd heard (deaf _)
  | listenExpired state | syncExpired state | holdOffExpired state => rw [hs] at state; cases state
  | stationAbsent _ receiving => rw [hs] at receiving; cases receiving
  | attemptStarted a _ selected =>
    have := transmits_of_selectAttempt selected
    rw [hs] at this
    cases this
  | nothing | supplyRose | released | imageRead | repairExpired | presenceExpired | activityExpired | testExpired
  | fieldPinSet | lineSampled | lineSettled | buttonPinSet | buttonSampled | buttonSettled =>
    left; simpa using hs

/-- A hardware reset that takes effect sets the reset values; any other leaves the line state (R187, R188). -/
theorem effect_hardwareReset_cases {cause : ResetCause} {s t : State} (h : Effect s (.hardwareReset cause) t) :
    (∃ source, t = takeHardwareReset source s) ∨ t.seq.state = s.seq.state := by
  cases h with
  | reset _ source => exact .inl ⟨source, rfl⟩
  | attemptFailed _ _ _ _ cause => rcases cause with ⟨e, -⟩ | ⟨e, -⟩ <;> cases e
  | frameHalts _ _ _ _ frame | frameTaken _ _ _ _ frame => cases frame
  | nothing | supplyRose | frameDiscarded | lineSampled | buttonSampled => right; simp

/-- A command that leaves a station OFF is a hardware reset, or finds it OFF and leaves its transfers and its line alone (R88, R187). -/
theorem effect_into_off {s t : State} {c : Instr} (h : Effect s c t) (ht : t.seq.state = .off) :
    (∃ source, t = takeHardwareReset source s) ∨ (s.seq.state = .off ∧ t.transfer = s.transfer ∧ t.line.attempt = s.line.attempt) := by
  by_cases hs : s.seq.state = .off
  · rcases effect_in_off h hs with kept | reset | rfl | ⟨cfg, rfl⟩
    · exact .inr ⟨hs, kept.2⟩
    · exact .inl reset
    · cases ht
    · simp at ht
  · have pass := effect_lineState h
    rw [ht] at pass
    have hc : isHardwareReset c = true := by
      revert pass hs
      cases s.seq.state <;> simp [lineStateMayPass]
    cases c with
    | hardwareReset cause =>
      rcases effect_hardwareReset_cases h with reset | e
      · exact .inl reset
      · exact absurd (e.symm.trans ht) hs
    | _ => cases hc

/-! ## Unused points are QUIET (R4, R26) -/

theorem UnusedQuietInv.of_keepsOwn {s t : State} (hs : UnusedQuietInv s) (hc : t.cfg = s.cfg) (h : KeepsOwn s.cfg s.points t.points)
    (hq : s.seq.state ≠ .off) : UnusedQuietInv t := by
  intro _ p hp
  rw [hc] at hp
  rw [(h p).2 hp, hs hq p hp]

theorem unusedQuietInv_effect {s t : State} {c : Instr} (hs : UnusedQuietInv s) (h : Effect s c t) : UnusedQuietInv t := by
  have reset : ∀ source, UnusedQuietInv (takeHardwareReset source s) := fun source off => absurd rfl off
  have refused : UnusedQuietInv (refuseImage s) := fun _ p _ => by simp [refuseImage]
  have accepted : ∀ cfg, UnusedQuietInv (acceptImage cfg s) := fun cfg _ p hp => by
    simp only [acceptImage_keeps] at hp
    rw [acceptImage_points_get, hp]
    rfl
  by_cases hoff : s.seq.state = .off
  · rcases effect_in_off h hoff with ⟨off, -⟩ | ⟨source, rfl⟩ | rfl | ⟨cfg, rfl⟩
    · exact fun hq => absurd off hq
    · exact reset source
    · exact refused
    · exact accepted cfg
  · rcases keepsOwn_effect h with ⟨hc, kept⟩ | ⟨source, rfl⟩ | rfl | ⟨cfg, rfl⟩ | ⟨a, p, w, d, -, hc, rfl⟩
    · exact hs.of_keepsOwn hc kept hoff
    · exact reset source
    · exact refused
    · exact accepted cfg
    · intro _ x hx
      rw [hc] at hx ⊢
      simp only [settle_keeps, repairTest_keeps, takeOwn_keeps, frameSent_keeps] at hx
      rcases ownPoint_points a p w d s with e | ⟨r, hp, -, e⟩
      · rw [e]; exact hs hoff x hx
      · rw [e, writeRecord_unused s.cfg s.points r (isUsed_of_isOwn hp) hx]; exact hs hoff x hx

/-! ## The points of lost stations are LOST (R21, R76, R79) -/

/-- What `LossInv` says of a station in any line state: the points and the contexts of lost stations. -/
def LossTable (s : State) : Prop :=
  (∀ (p : PointIndex) (n : Station), s.cfg.points[p].owner = some n → s.cfg.self ≠ some n →
      isLoss s.members.entries[n].state = true → s.points[p].state = .lost)
    ∧ ∀ n : Station, s.transfer.contexts[n].isSome = true → isLoss s.members.entries[n].state = false

theorem lossInv_iff (s : State) :
    LossInv s ↔ LossTable s ∧ (s.seq.state = .off → ∀ n : Station, s.transfer.contexts[n] = none) := by
  simp only [LossInv, LossTable, and_assoc]

/-- States that hold one configuration, the same entries and the same contexts, with no LOST point come to life. -/
theorem LossTable.of_kept {s t : State} (hs : LossTable s) (hc : t.cfg = s.cfg) (he : t.members.entries = s.members.entries)
    (ht : t.transfer.contexts = s.transfer.contexts) (hp : ∀ p : PointIndex, s.points[p].state = .lost → t.points[p].state = .lost) :
    LossTable t := by
  obtain ⟨points, contexts⟩ := hs
  unfold LossTable
  rw [hc, he, ht]
  exact ⟨fun p n ho hn hl => hp p (points p n ho hn hl), contexts⟩

theorem LossTable.of_blocks {s t : State} (hs : LossTable s) (hc : t.cfg = s.cfg) (he : t.members.entries = s.members.entries)
    (ht : t.transfer.contexts = s.transfer.contexts) (hp : t.points = s.points) : LossTable t :=
  hs.of_kept hc he ht fun p h => by rw [hp]; exact h

theorem isLoss_iff (m : MemberState) : isLoss m = true ↔ m = .absent ∨ m = .mismatch := by cases m <;> decide

/-- A station cut off: its contexts are closed, and every point of another station is LOST (R44, R102). -/
theorem lossTable_of_cleared {s t : State} (hp : t.points = loseOthers s.cfg s.points) (hc : t.cfg = s.cfg)
    (ht : ∀ n : Station, t.transfer.contexts[n] = none) : LossTable t := by
  refine ⟨fun p n ho hn _ => ?_, fun n h => by rw [ht n] at h; cases h⟩
  rw [hc] at ho hn
  rw [hp, loseOthers_get, isOwn_of_other ho hn, isUsed_of_ownedBy ((ownedBy_iff s.cfg n p).2 ho)]
  simp

/-- What a move does to the transfers: a change to ABSENT or MISMATCH closes the station's context (R79). -/
theorem moveEntry_transfer (n : Station) (e : MemberEntry) (s : State) :
    (moveEntry n e s).transfer
      = if e.state ≠ s.members.entries[n].state ∧ (e.state = .absent ∨ e.state = .mismatch) then
          { s.transfer with contexts := s.transfer.contexts.set n none }
        else s.transfer := by
  unfold moveEntry
  by_cases h : e.state = s.members.entries[n].state
  · rw [if_pos h, if_neg (fun x => x.1 h)]; simp
  · rw [if_neg h]
    by_cases g : e.state = .absent ∨ e.state = .mismatch
    · rw [if_pos g, if_pos ⟨h, g⟩]; simp [loseStation, closeContext]
    · rw [if_neg g, if_neg (fun x => g x.2)]; simp

/-- A move of one station's entry, when only that station's context may have been changed before it. -/
theorem lossTable_moveEntry {s : State} {n : Station} (e : MemberEntry) (hn : s.cfg.self ≠ some n)
    (points : ∀ (p : PointIndex) (m : Station), s.cfg.points[p].owner = some m → s.cfg.self ≠ some m →
      isLoss s.members.entries[m].state = true → s.points[p].state = .lost)
    (others : ∀ m : Station, m ≠ n → s.transfer.contexts[m].isSome = true → isLoss s.members.entries[m].state = false)
    (own : isLoss e.state = true → e.state = s.members.entries[n].state → s.transfer.contexts[n] = none) :
    LossTable (moveEntry n e s) := by
  have lost : ∀ p : PointIndex, s.points[p].state = .lost → (loseOwner s.cfg n s.points)[p].state = .lost := by
    intro p h
    rw [loseOwner_get]
    split
    · exact lose_state _
    · exact h
  have kept : ∀ p : PointIndex, s.points[p].state = .lost → (moveEntry n e s).points[p].state = .lost := by
    intro p h
    rw [moveEntry_points]
    split
    · exact lost p h
    · exact h
  refine ⟨fun p m ho hm hl => ?_, fun m hx => ?_⟩
  · simp only [moveEntry_keeps] at ho hm
    rw [moveEntry_entries] at hl
    by_cases hmn : m = n
    · subst hmn
      rw [set_get_self] at hl
      by_cases he : e.state = s.members.entries[m].state
      · exact kept p (points p m ho hm (he ▸ hl))
      · rw [moveEntry_points, if_pos ⟨he, (isLoss_iff _).1 hl⟩, loseOwner_get, (ownedBy_iff s.cfg m p).2 ho, isOwn_of_other ho hm]
        exact lose_state _
    · rw [set_get_other _ _ _ _ hmn] at hl
      exact kept p (points p m ho hm hl)
  · rw [moveEntry_entries]
    by_cases hmn : m = n
    · subst hmn
      rw [set_get_self]
      by_contra hl
      have hl : isLoss e.state = true := by simpa using hl
      rw [moveEntry_transfer] at hx
      split at hx
      · simp at hx
      · next same =>
        have he : e.state = s.members.entries[m].state := by
          by_contra he
          exact same ⟨he, (isLoss_iff _).1 hl⟩
        rw [own hl he] at hx
        cases hx
    · rw [set_get_other _ _ _ _ hmn]
      rw [moveEntry_transfer] at hx
      split at hx
      · rw [set_get_other _ _ _ _ hmn] at hx
        exact others m hmn hx
      · exact others m hmn hx

theorem LossTable.moveEntry {s : State} (hs : LossTable s) {n : Station} (hn : s.cfg.self ≠ some n) (e : MemberEntry) :
    LossTable (Machine.moveEntry n e s) := by
  refine lossTable_moveEntry e hn hs.1 (fun m _ => hs.2 m) fun hl he => ?_
  rw [he] at hl
  by_contra hx
  rw [hs.2 n (Option.isSome_iff_ne_none.2 hx)] at hl
  cases hl

theorem lossTable_hear {s : State} (hs : LossTable s) (f : StationField) (h : Heard) (o : DigestOutcome) (d : Option Word) :
    LossTable (hear f h o d s) := by
  unfold hear
  split
  · exact hs
  · split
    · exact hs
    · next hn => exact hs.moveEntry hn _

/-- The states a matching POINT or OPERATOR frame, or START, brings are none of a lost station (R75). -/
theorem staleIfLost_not_loss (m : MemberState) : isLoss (staleIfLost m) = false := by cases m <;> rfl

theorem start_not_loss (complete : Bool) (m : MemberState) : isLoss (nextMember (.start complete) .same m) = false := by
  cases complete with
  | true => rfl
  | false => exact staleIfLost_not_loss m

theorem LossTable.of_transfer {s : State} (hs : LossTable s) (x : TransferUnit) (hx : ∀ n : Station, x.contexts[n].isSome = true →
    s.transfer.contexts[n].isSome = true) : LossTable (s.setTransfer x) :=
  ⟨hs.1, fun n h => hs.2 n (hx n h)⟩

theorem lossTable_dropTransfer {s : State} (hs : LossTable s) (n : Station) : LossTable (dropTransfer n s) := by
  refine hs.of_transfer _ fun m hm => ?_
  by_cases hmn : m = n
  · subst hmn
    simp at hm
  · rwa [set_get_other _ _ _ _ hmn] at hm

theorem lossTable_restartWholeGrid {s : State} (hs : LossTable s) : LossTable (restartWholeGrid s) := hs.of_transfer _ fun _ h => h

theorem lossTable_answerJoin {s : State} (hs : LossTable s) (f : StationField) (d : Word) : LossTable (answerJoin f d s) := by
  unfold answerJoin
  split
  · exact lossTable_restartWholeGrid hs
  · exact hs

theorem lossTable_takeRegion {s : State} (hs : LossTable s) (w : Window) : LossTable (takeRegion w s) := by
  unfold takeRegion
  split
  · split <;> exact hs.of_transfer _ fun _ h => h
  · exact hs.of_transfer _ fun _ h => h

/-- A write at a point of a station that is not lost leaves LOST points LOST (R16, R20). -/
theorem lossTable_write {s t : State} {n : Station} (hs : LossTable s)
    (hn : s.cfg.self ≠ some n → isLoss s.members.entries[n].state = false) (hc : t.cfg = s.cfg)
    (he : t.members.entries = s.members.entries) (ht : t.transfer.contexts = s.transfer.contexts)
    (hp : ∀ p : PointIndex, s.cfg.points[p].owner ≠ some n → t.points[p].state = s.points[p].state) : LossTable t := by
  obtain ⟨points, contexts⟩ := hs
  unfold LossTable
  rw [hc, he, ht]
  refine ⟨fun p m ho hm hl => ?_, contexts⟩
  have hmn : m ≠ n := fun e => by
    subst e
    rw [hn hm] at hl
    cases hl
  rw [hp p (by rw [ho]; exact fun e => hmn (Option.some.inj e))]
  exact points p m ho hm hl

theorem lossTable_writePoint {s : State} (hs : LossTable s) {f : StationField} {d : Word}
    (hn : digestMatches s d = true → ∀ n, stationOfField f = some n → s.cfg.self ≠ some n → isLoss s.members.entries[n].state = false)
    (p : PointIndex) (w : WireRecord) : LossTable (writePoint f p w d s) := by
  rcases writePoint_cases f p w d s with ⟨n, r, hf, hd, ho, -, e⟩ | e <;> rw [e]
  · refine lossTable_write hs (hn hd n hf) (by simp) (by simp) (by simp) fun x hx => ?_
    have hxp : x ≠ p := fun e => hx (e ▸ ho)
    change (writeRecord s.cfg s.points p r)[x].state = _
    rw [writeRecord_state, if_neg hxp]
  · exact hs

theorem writePart_state {cfg : Configuration} {n : Station} (c : ReceiveContext) (ws : List WireRecord) (records : Records)
    {x : PointIndex} (hx : cfg.points[x].owner ≠ some n) : (writePart cfg n c ws records)[x].state = records[x].state := by
  unfold writePart
  have owned : ∀ pw ∈ (pointsFrom cfg (some n) c.window c.cursor).zip ws, cfg.points[pw.1].owner = some n :=
    fun pw h => mem_pointsFrom (List.of_mem_zip h).1
  generalize (pointsFrom cfg (some n) c.window c.cursor).zip ws = rows at owned
  induction rows generalizing records with
  | nil => rfl
  | cons pw rest ih =>
    have hne : x ≠ pw.1 := fun e => hx (e ▸ owned pw List.mem_cons_self)
    rw [List.foldl_cons, ih _ fun y h => owned y (List.mem_cons_of_mem pw h)]
    unfold writeCarried
    split
    · rfl
    · rw [writeRecord_state, if_neg hne]

theorem lossTable_followPart {s : State} (hs : LossTable s) {n : Station} {c : ReceiveContext} (hc : s.transfer.contexts[n] = some c)
    (ws : List WireRecord) : LossTable (followPart n c ws s) := by
  have present : isLoss s.members.entries[n].state = false := hs.2 n (by rw [hc]; rfl)
  have written : LossTable (s.setPoints (writePart s.cfg n c ws s.points)) :=
    lossTable_write hs (fun _ => present) rfl rfl rfl fun p hp => writePart_state c ws s.points hp
  refine ⟨written.1, fun m hm => ?_⟩
  by_cases hmn : m = n
  · exact hmn ▸ present
  · refine written.2 m ?_
    simpa only [followPart, setContext, State.transfer_setTransfer, set_get_other _ _ _ _ hmn] using hm

theorem lossTable_adoptCount {s : State} (hs : LossTable s) (f : StationField) (d : Word) (count : Option Word) :
    LossTable (adoptCount f d count s) :=
  hs.of_blocks (by simp) (by simp) (by simp) (by simp)

theorem lossTable_takeStart {s : State} (hs : LossTable s) {f : StationField} (hf : ∀ n, stationOfField f = some n → s.cfg.self ≠ some n)
    (w : Window) (total : Nat) (count : Option Word) (d : Word) : LossTable (takeStart f w total count d s) := by
  unfold takeStart
  split
  · exact hs
  · next n hn =>
    apply lossTable_adoptCount
    have self := hf n hn
    rw [hear_entry hn _ _ _ _ (by simpa using self)]
    refine lossTable_moveEntry _ (by simpa using self) hs.1 (fun m hm hx => hs.2 m ?_) fun hl _ => ?_
    · simpa only [setContext, State.transfer_setTransfer, set_get_other _ _ _ _ hm] using hx
    · cases hd : digestMatches s d with
      | true =>
        rw [show judgeDigest s d = .same by simp [judgeDigest, hd]] at hl
        rw [start_not_loss] at hl
        cases hl
      | false => simp [setContext, contextOfStart]

theorem lossTable_takeData {s : State} (hs : LossTable s) (f : StationField) (part : Nat) (last : Bool) (ws : List WireRecord) :
    LossTable (takeData f part last ws s) := by
  unfold takeData
  split
  · exact hs
  · next n _ =>
    split
    · exact lossTable_hear (lossTable_dropTransfer hs n) ..
    · next c hc =>
      split
      · exact lossTable_hear (lossTable_followPart hs hc ws) ..
      · exact lossTable_hear (lossTable_dropTransfer hs n) ..

/-- The sender of a matching POINT or OPERATOR frame is no lost station behind it (R75). -/
theorem hear_pointOrOperator_not_loss {s : State} {f : StationField} {n : Station} (hf : stationOfField f = some n)
    (hn : s.cfg.self ≠ some n) (d : Option Word) :
    isLoss (hear f .pointOrOperator .same d s).members.entries[n].state = false := by
  rw [hear_entry hf _ _ _ _ hn, moveEntry_entries]
  rw [set_get_self]
  exact staleIfLost_not_loss _

theorem lossTable_takePoint {s : State} (hs : LossTable s) (f : StationField) (p : PointIndex) (w : WireRecord) (d : Word) :
    LossTable (takePoint f p w d s) := by
  refine lossTable_writePoint (lossTable_hear (hs.of_blocks (by simp) (by simp) (by simp) (by simp)) ..) (fun hd n hn self => ?_) p w
  have same : judgeDigest s d = .same := by
    rw [judgeDigest, if_pos (by simpa [digestMatches] using hd)]
  rw [same]
  exact hear_pointOrOperator_not_loss hn (by simpa using self) _

theorem lossTable_takeOperator {s : State} (hs : LossTable s) (f : StationField) (op : Operation) (groups horizon d : Word) :
    LossTable (takeOperator f op groups horizon d s) := by
  unfold takeOperator
  split
  · refine (lossTable_hear hs f .pointOrOperator .same (some d)).of_kept (by simp) (by simp) (by simp) fun p h => ?_
    change (operateGroups _ op groups horizon _)[p].state = _
    rw [operateGroups_get]
    split
    · rw [← impliedLevel_eq_none, impliedLevel_operate, impliedLevel_eq_none]; exact h
    · exact h
  · exact lossTable_hear hs ..

theorem lossTable_softRestart (s : State) : LossTable (softRestart s) :=
  lossTable_of_cleared (s := s) rfl rfl fun n => by simp [softRestart, enterListening, clearedTransfer]

theorem lossTable_answerQuery {s : State} (hs : LossTable s) (f : StationField) (q : Query) : LossTable (answerQuery f q s) := by
  cases q with
  | status _ | members _ _ =>
    simp only [answerQuery]
    split
    · exact hs
    · exact hs
  | region _ w =>
    simp only [answerQuery]
    split
    · exact lossTable_takeRegion hs w
    · exact hs
  | restart _ =>
    simp only [answerQuery]
    split
    · exact lossTable_softRestart s
    · exact hs

theorem lossTable_takeContent {s : State} (hs : LossTable s) {f : StationField} (hf : ∀ n, stationOfField f = some n → s.cfg.self ≠ some n)
    (content : FrameContent) : LossTable (takeContent f content s) := by
  cases content with
  | point p w d => exact lossTable_takePoint hs f p w d
  | operator op g h d => exact lossTable_takeOperator hs f op g h d
  | join d _ => exact lossTable_hear (lossTable_answerJoin hs f d) ..
  | start w total count d => exact lossTable_takeStart hs hf w total count d
  | data part last ws => exact lossTable_takeData hs f part last ws
  | presence d count peer =>
    apply lossTable_adoptCount
    apply lossTable_hear
    split <;> exact hs
  | query q => exact lossTable_answerQuery (lossTable_hear hs ..) f q
  | reply _ _ _ => exact lossTable_hear hs ..

theorem lossTable_takeMalformed {s : State} (hs : LossTable s) (cls : FrameClass) (f : StationField) :
    LossTable (takeMalformed cls f s) := by
  cases cls with
  | unassigned => exact hs
  | snapshot =>
    simp only [takeMalformed]
    split
    · exact lossTable_hear (lossTable_dropTransfer hs _) ..
    · exact hs
  | point => exact lossTable_hear (hs.of_blocks (by simp) (by simp) (by simp) (by simp)) ..
  | operator | join | presence | query | reply => exact lossTable_hear hs ..

theorem lossTable_takePayload {s : State} (hs : LossTable s) {f : StationField} (hf : ∀ n, stationOfField f = some n → s.cfg.self ≠ some n)
    (cls : FrameClass) (payload : List Byte) : LossTable (takePayload cls f payload s) := by
  unfold takePayload
  split
  · exact lossTable_takeMalformed hs cls f
  · exact lossTable_takeContent hs hf _

@[simp] theorem enterSynced_contexts (s : State) : (enterSynced s).transfer.contexts = s.transfer.contexts := by
  simp [enterSynced, restartWholeGrid]

@[simp] theorem settleMembership_contexts (s : State) : (settleMembership s).transfer.contexts = s.transfer.contexts := by
  rcases synchronise_cases s with ⟨-, -, -, e⟩ | e <;> simp [settleMembership, e]

@[simp] theorem settleMembership_entries (s : State) : (settleMembership s).members.entries = s.members.entries := by
  simp [settleMembership]

theorem lossTable_settleMembership {s : State} (hs : LossTable s) : LossTable (settleMembership s) :=
  hs.of_blocks (by simp) (by simp) (by simp) (by simp)

@[simp] theorem advanceJob_contexts (cfg : Configuration) (t : TransferUnit) : (advanceJob cfg t).contexts = t.contexts := by
  have finished : (finishJob t).contexts = t.contexts := by unfold finishJob; split <;> rfl
  unfold advanceJob
  split
  · rfl
  · split
    · exact finished
    · rfl
  · split
    · exact finished
    · rfl

@[simp] theorem joinSent_contexts (s : State) : (joinSent s).transfer.contexts = s.transfer.contexts := by
  unfold joinSent
  split
  · split <;> simp
  · rfl

theorem lossTable_takeOwn {s : State} (hs : LossTable s) (content : FrameContent) : LossTable (takeOwn content s) := by
  cases content with
  | point p w d =>
    have taken := lossTable_takePoint hs (sentField s) p w d
    refine taken.of_blocks ?_ ?_ ?_ ?_ <;> simp [takeOwn]
  | operator op g h d =>
    have taken := lossTable_takeOperator hs (sentField s) op g h d
    refine taken.of_blocks ?_ ?_ ?_ ?_ <;> simp [takeOwn]
  | join _ _ | start _ _ _ _ | data _ _ _ | presence _ _ _ | query _ | reply _ _ _ =>
    refine hs.of_blocks ?_ ?_ ?_ ?_ <;> simp [takeOwn]

/-- With no point configured no point is a lost station's (R197). -/
theorem lossTable_of_blank {t : State} (hc : t.cfg = blankConfiguration)
    (ht : ∀ n : Station, t.transfer.contexts[n].isSome = true → isLoss t.members.entries[n].state = false) : LossTable t := by
  refine ⟨fun p n ho _ _ => ?_, ht⟩
  rw [hc] at ho
  simp [blankConfiguration, unusedPoint] at ho

theorem lossTable_acceptImage (cfg : Configuration) {s : State} (ht : ∀ n : Station, s.transfer.contexts[n] = none) :
    LossTable (acceptImage cfg s) := by
  refine ⟨fun p n ho hn _ => ?_, fun n h => ?_⟩
  · simp only [acceptImage_keeps] at ho hn
    rw [acceptImage_points_get, isOwn_of_other ho hn, isUsed_of_ownedBy ((ownedBy_iff cfg n p).2 ho)]
    rfl
  · simp only [acceptImage_keeps] at h
    rw [ht n] at h
    cases h

theorem lossTable_effect {s t : State} {c : Instr} (hs : LossInv s) (h : Effect s c t) : LossTable t := by
  obtain ⟨table, closed⟩ := (lossInv_iff s).1 hs
  cases h with
  | reset => exact lossTable_of_blank rfl fun n hx => by simp [takeHardwareReset, State.reset] at hx
  | imageRefused => exact lossTable_of_blank rfl table.2
  | imageAccepted cfg _ off => exact lossTable_acceptImage cfg (closed off)
  | frameTaken _ cls heading payload _ _ other =>
    refine lossTable_settleMembership (lossTable_takePayload ?_ (by simpa using other_of_ownField other) cls payload)
    exact table.of_blocks (by simp) (by simp) (by simp) (by simp)
  | attemptFailed _ _ mismatches =>
    rcases afterFailure_cases (failedAttempt mismatches s) with ⟨-, e⟩ | ⟨-, e⟩ <;> rw [e]
    · exact lossTable_of_cleared (s := s) rfl rfl fun n => by simp [enterWithdrawn, clearedTransfer]
    · exact table.of_blocks (by simp) (by simp) (by simp) (by simp)
  | ownFrame a live =>
    have sent : LossTable (frameSent a s) := table.of_blocks (by simp) (by simp) (by simp) (by simp)
    exact (lossTable_takeOwn sent a.content).of_blocks (by simp) (by simp) (by simp) (by simp)
  | holdOffExpired =>
    refine table.of_kept (by simp) (by simp) (by simp) fun p h => ?_
    change (loseOthers s.cfg s.points)[p].state = _
    rw [loseOthers_get]
    split
    · exact lose_state _
    · exact h
  | stationAbsent n _ other =>
    have moment : LossTable (newMoment s) := table.of_blocks (by simp) (by simp) (by simp) (by simp)
    exact lossTable_settleMembership (moment.moveEntry (by simpa using other) _)
  | mismatchHalts | frameHalts => exact table.of_blocks (by simp) (by simp [enterHalted]) (by simp) (by simp)
  | nothing | supplyRose | released | imageRead | attemptStarted | arbitrationLost | frameFaulty | frameDiscarded
  | listenExpired | syncExpired | repairExpired | presenceExpired | activityExpired | testExpired | fieldPinSet
  | lineSampled | lineSettled | buttonPinSet | buttonSampled | buttonSettled =>
    exact table.of_blocks (by simp) (by simp) (by simp) (by simp)

theorem lossInv_effect {s t : State} {c : Instr} (hs : LossInv s) (h : Effect s c t) : LossInv t := by
  refine (lossInv_iff t).2 ⟨lossTable_effect hs h, fun ht n => ?_⟩
  rcases effect_into_off h ht with ⟨source, rfl⟩ | ⟨off, kept, -⟩
  · simp [takeHardwareReset, State.reset]
  · rw [kept]
    exact ((lossInv_iff s).1 hs).2 off n

/-- An older entry is in the state it was in (R72). -/
@[simp] theorem tick_entry_state (s : State) (n : Station) : (tick s).members.entries[n].state = s.members.entries[n].state := by
  change (if receives s.seq.state then tabulate fun n => olderEntry s.cfg s.members.entries[n] else s.members.entries)[n].state = _
  split
  · simp only [Fin.getElem_fin, tabulate_get]
    unfold olderEntry
    split <;> rfl
  · rfl

theorem lossInv_tick {s : State} (hs : LossInv s) : LossInv (tick s) := by
  obtain ⟨points, contexts, off⟩ := hs
  refine ⟨fun p n ho hn hl => points p n ho hn ?_, fun n hx => ?_, off⟩
  · rwa [tick_entry_state] at hl
  · rw [tick_entry_state]
    exact contexts n hx

/-- Settles O52: `keepsOwn_effect` for own and unused points, and `lossTable_effect` for the points and contexts of lost stations. -/
theorem lostMarkingFollowsMembership : Obligations.LostMarkingFollowsMembership :=
  ⟨⟨step_keeps_of_effect (fun _ _ hs => hs) (fun _ hs => hs) fun _ _ _ => ownKnownInv_effect,
    step_keeps_of_effect (fun _ _ hs => hs) (fun _ hs => hs) fun _ _ _ => unusedQuietInv_effect⟩,
    step_keeps_of_effect (fun _ _ hs => hs) (fun _ => lossInv_tick) fun _ _ _ => lossInv_effect⟩

end Sys2Proof.Machine
end

section
/-! PROOFS. The report queue and the operator queue stay within their bounds through every step (R121, R122, R127, R139, R141). -/

namespace Sys2Proof.Machine

open Sys2Proof

/-! ## The report queue -/

theorem ReportInv.of_scanner {s t : State} (hs : ReportInv s) (hc : t.cfg = s.cfg) (hx : t.scanner = s.scanner)
    (hq : t.seq.state = .synced → s.seq.state = .synced) : ReportInv t := by
  obtain ⟨bound, reported⟩ := hs
  unfold ReportInv
  rw [hx, hc]
  exact ⟨bound, fun h => reported (hq h)⟩

/-- Outside SYNCED the bound alone is asked for. -/
theorem reportInv_of_ne {t : State} (h : t.scanner.queue.length ≤ reportCapacity) (hq : t.seq.state ≠ .synced) : ReportInv t :=
  ⟨h, fun e => absurd e hq⟩

/-- Reconciliation leaves the queue as it should be (R121). -/
theorem reportInv_reconcile {s : State} (h : s.scanner.queue.length ≤ reportCapacity) : ReportInv (reconcile s) := by
  by_cases hq : s.seq.state = .synced
  · have e : (reconcile s).scanner = reconcileRounds s.cfg reportCapacity s.scanner := by simp [reconcile, hq]
    unfold ReportInv
    rw [e, (reconcile_keeps s).2.2.2.1]
    exact ⟨reconcileRounds_length s.cfg reportCapacity s.scanner h,
      fun _ room => reconcileRounds_complete s.cfg reportCapacity s.scanner (Nat.le_add_right _ _) room⟩
  · rw [reconcile, if_neg hq]
    exact reportInv_of_ne h hq

theorem reportInv_enterSynced {s : State} (h : s.scanner.queue.length ≤ reportCapacity) : ReportInv (enterSynced s) :=
  reportInv_reconcile (by simpa using h)

theorem reportInv_synchronise {s : State} (hs : ReportInv s) : ReportInv (synchronise s) := by
  rcases synchronise_cases s with ⟨-, -, -, e⟩ | e <;> rw [e]
  · exact reportInv_enterSynced hs.1
  · exact hs

@[simp] theorem settleMembership_scanner (s : State) : (settleMembership s).scanner = (synchronise s).scanner := by
  simp [settleMembership]

theorem reportInv_settleMembership {s : State} (hs : ReportInv s) : ReportInv (settleMembership s) :=
  (reportInv_synchronise hs).of_scanner (by simp) (by simp) (by simp)

theorem reportInv_takePayload {s : State} (hs : ReportInv s) (cls : FrameClass) (f : StationField) (payload : List Byte) :
    ReportInv (takePayload cls f payload s) := by
  rcases takePayload_cases cls f payload s with ⟨_, -, -, e⟩ | taken
  · rw [e]
    exact reportInv_of_ne (by simp [softRestart, enterListening]) (by simp)
  · exact hs.of_scanner taken.cfg taken.scanner fun h => by rwa [taken.lineState] at h

/-- A debouncer that keeps the stable level leaves every line as reported or unreported as it was (R120). -/
theorem isUnreported_setLineDebouncer {s : State} {l : InputLine} {d : Debouncer Level}
    (hd : d.stable = s.scanner.lines[l].debouncer.stable) (cfg : Configuration) :
    isUnreported cfg (setLineDebouncer l d s).scanner = isUnreported cfg s.scanner := by
  funext m
  unfold isUnreported setLineDebouncer
  by_cases h : m = l
  · subst h
    simp only [State.scanner_setScanner, set_get_self, hd]
  · simp only [State.scanner_setScanner, set_get_other _ _ _ _ h]

theorem reportInv_lineDebounced {s : State} (hs : ReportInv s) (l : InputLine) (d : Debouncer Level) : ReportInv (lineDebounced l d s) := by
  unfold lineDebounced
  split
  · next hd =>
    obtain ⟨bound, reported⟩ := hs
    refine ⟨bound, fun hq room => ?_⟩
    rw [unreportedCount, isUnreported_setLineDebouncer hd]
    exact reported hq room
  · exact reportInv_reconcile (by simpa [setLineDebouncer] using hs.1)

theorem reportInv_joinSent {s : State} (hs : ReportInv s) : ReportInv (joinSent s) := by
  unfold joinSent
  split
  · split
    · exact reportInv_of_ne hs.1 (by simp)
    · exact reportInv_enterSynced hs.1
  · exact hs.of_scanner rfl rfl id

theorem reportInv_takeOwn {s : State} (hs : ReportInv s) (content : FrameContent) : ReportInv (takeOwn content s) := by
  cases content with
  | point p w d =>
    refine reportInv_reconcile ?_
    simp only [State.scanner_setScanner, List.length_tail]
    have := hs.1
    omega
  | operator op g h d =>
    have taken := takenFrame_takeOperator (sentField s) op g h d s
    exact hs.of_scanner taken.cfg taken.scanner fun h => by rwa [← taken.lineState]
  | join _ _ => exact reportInv_joinSent hs
  | start _ _ _ _ | data _ _ _ | presence _ _ _ | query _ | reply _ _ _ => exact hs.of_scanner rfl rfl id

theorem reportInv_effect {s t : State} {c : Instr} (hs : ReportInv s) (h : Effect s c t) : ReportInv t := by
  have setup {u : State} (hc : u.cfg = s.cfg) (hx : u.scanner = s.scanner) (hq : u.seq.state = s.seq.state) : ReportInv u :=
    hs.of_scanner hc hx fun e => by rwa [hq] at e
  cases h with
  | reset => exact reportInv_of_ne (by simp [takeHardwareReset, State.reset]) (by simp [takeHardwareReset, State.reset])
  | imageRefused => exact reportInv_of_ne hs.1 (by simp [refuseImage])
  | imageAccepted cfg => exact reportInv_of_ne (by simp [acceptImage]) (by simp)
  | mismatchHalts | frameHalts => exact reportInv_of_ne (by simpa using hs.1) (by simp [enterHalted])
  | frameTaken _ cls heading payload =>
    exact reportInv_settleMembership (reportInv_takePayload (setup (by simp) (by simp) (by simp)) ..)
  | attemptFailed _ _ mismatches =>
    refine hs.of_scanner (by simp) (by simp) ?_
    rcases afterFailure_cases (failedAttempt mismatches s) with ⟨-, e⟩ | ⟨-, e⟩ <;> rw [e] <;> simp [enterWithdrawn]
  | ownFrame a live =>
    have sent : ReportInv (frameSent a s) := setup (by simp) (by simp) (by simp)
    exact (reportInv_takeOwn sent a.content).of_scanner (by simp) (by simp) (by simp)
  | listenExpired | holdOffExpired => exact reportInv_of_ne (by simpa using hs.1) (by simp [enterListening])
  | syncExpired =>
    exact (reportInv_enterSynced (s := newMoment s) (by simpa using hs.1)).of_scanner (by simp) (by simp) (by simp)
  | stationAbsent n => exact reportInv_settleMembership (setup (by simp) (by simp) (by simp))
  | lineSampled _ l pin d =>
    exact (reportInv_lineDebounced (setup (u := newMoment (setFieldPin l pin s)) (by simp) (by simp) (by simp)) l d).of_scanner
      (by simp) (by simp) (by simp)
  | lineSettled l d =>
    exact (reportInv_lineDebounced (setup (u := newMoment s) (by simp) (by simp) (by simp)) l d).of_scanner (by simp) (by simp) (by simp)
  | nothing | supplyRose | released | imageRead | attemptStarted | arbitrationLost | frameFaulty | frameDiscarded | repairExpired
  | presenceExpired | activityExpired | testExpired | fieldPinSet | buttonPinSet | buttonSampled | buttonSettled =>
    exact setup (by simp) (by simp) (by simp)

/-- A millisecond moves the settling timers alone (R117). -/
theorem scannerOver_line (s : State) (l : InputLine) :
    (scannerOver s).lines[l].debouncer.stable = s.scanner.lines[l].debouncer.stable
      ∧ (scannerOver s).lines[l].reported = s.scanner.lines[l].reported := by
  unfold scannerOver
  split
  · simp [settlingDown]
  · exact ⟨rfl, rfl⟩

theorem scannerOver_queue (s : State) : (scannerOver s).queue = s.scanner.queue := by
  unfold scannerOver
  split <;> rfl

theorem tick_scanner (s : State) : (tick s).scanner = scannerOver s := rfl

theorem isUnreported_scannerOver (cfg : Configuration) (s : State) : isUnreported cfg (scannerOver s) = isUnreported cfg s.scanner := by
  funext l
  unfold isUnreported
  rw [(scannerOver_line s l).1, (scannerOver_line s l).2]

theorem reportInv_tick {s : State} (hs : ReportInv s) : ReportInv (tick s) := by
  obtain ⟨bound, reported⟩ := hs
  unfold ReportInv
  simp only [tick_scanner, scannerOver_queue, unreportedCount, isUnreported_scannerOver]
  exact ⟨bound, reported⟩

/-! ## The operator queue -/

theorem OperatorInv.of_queue {s t : State} (hs : OperatorInv s) (hp : t.panel.queue = s.panel.queue)
    (hq : s.seq.state = .synced ∨ s.seq.state = .halted → t.seq.state = .synced ∨ t.seq.state = .halted) : OperatorInv t := by
  obtain ⟨bound, empty⟩ := hs
  unfold OperatorInv
  rw [hp]
  refine ⟨bound, fun h1 h2 => ?_⟩
  by_contra hne
  have held : s.seq.state = .synced ∨ s.seq.state = .halted := by
    by_contra h
    exact hne (empty (fun e => h (.inl e)) fun e => h (.inr e))
  rcases hq held with h | h
  · exact h1 h
  · exact h2 h

theorem operatorInv_of_empty {t : State} (h : t.panel.queue = []) : OperatorInv t := ⟨by simp [h], fun _ _ => h⟩

@[simp] theorem settle_queue (s : State) : (settle s).panel.queue = s.panel.queue := by rw [settle_panel]

@[simp] theorem settleMembership_panel (s : State) : (settleMembership s).panel.queue = s.panel.queue := by
  simp [settleMembership]

@[simp] theorem withDebouncer_queue (panel : OperatorInterface) (b : Button) (d : Debouncer ButtonLevel) :
    (withDebouncer panel b d).queue = panel.queue := by cases b <;> rfl

/-- A press is accepted with room in the queue of a SYNCED station alone (R136). -/
theorem operatorInv_pressOperation {s : State} (hs : OperatorInv s) (op : Operation) : OperatorInv (pressOperation op s) := by
  unfold pressOperation
  split
  · next room =>
    obtain ⟨synced, room⟩ := room
    refine ⟨?_, fun h => absurd synced h⟩
    simp only [State.panel_setPanel, List.length_append, List.length_singleton]
    omega
  · exact hs

theorem operatorInv_buttonDebounced {s : State} (hs : OperatorInv s) (b : Button) (d : Debouncer ButtonLevel) :
    OperatorInv (buttonDebounced b d s) := by
  have set : OperatorInv (setButtonDebouncer b d s) := hs.of_queue (by simp [setButtonDebouncer]) id
  have raised : OperatorInv (raise classButton (setButtonDebouncer b d s)) := set
  unfold buttonDebounced
  split
  · exact set
  · split
    · cases b with
      | ack | silence | reset => exact operatorInv_pressOperation raised _
      | test => exact raised.of_queue (by simp [press]) (by simp [press])
    · cases b with
      | ack | silence | reset | test => exact set

theorem operatorInv_enterSynced {s : State} (hs : OperatorInv s) : OperatorInv (enterSynced s) :=
  hs.of_queue (by simp) (by simp)

theorem operatorInv_settleMembership {s : State} (hs : OperatorInv s) : OperatorInv (settleMembership s) := by
  refine hs.of_queue (by simp) fun held => ?_
  rcases settleMembership_lineState s with e | ⟨-, -, e⟩ <;> rw [e]
  · exact held
  · exact .inl rfl

theorem operatorInv_takePayload {s : State} (hs : OperatorInv s) (cls : FrameClass) (f : StationField) (payload : List Byte) :
    OperatorInv (takePayload cls f payload s) := by
  rcases takePayload_cases cls f payload s with ⟨_, -, -, e⟩ | taken
  · rw [e]
    exact operatorInv_of_empty (by simp [softRestart, enterListening])
  · exact hs.of_queue (by rw [taken.panel]) (by rw [taken.lineState]; exact id)

theorem operatorInv_takeOwn {s : State} (hs : OperatorInv s) (content : FrameContent) : OperatorInv (takeOwn content s) := by
  have state : s.seq.state = .synced ∨ s.seq.state = .halted →
      (takeOwn content s).seq.state = .synced ∨ (takeOwn content s).seq.state = .halted := by
    rcases takeOwn_lineState content s with e | ⟨joining, -⟩
    · rw [e]; exact id
    · rw [joining]; simp
  cases content with
  | operator op g h d =>
    obtain ⟨bound, empty⟩ := hs
    have taken := takenFrame_takeOperator (sentField s) op g h d s
    refine ⟨?_, fun h1 h2 => ?_⟩
    · simp only [takeOwn, State.panel_setPanel, List.length_tail]
      omega
    · simp only [takeOwn, State.seq_setPanel, taken.lineState] at h1 h2
      simp [takeOwn, empty h1 h2]
  | point p w d => exact hs.of_queue (by simp [takeOwn, takePoint]) state
  | join _ _ | start _ _ _ _ | data _ _ _ | presence _ _ _ | query _ | reply _ _ _ => exact hs.of_queue (by simp [takeOwn]) state

theorem operatorInv_effect {s t : State} {c : Instr} (hs : OperatorInv s) (h : Effect s c t) : OperatorInv t := by
  have setup {u : State} (hx : u.panel.queue = s.panel.queue) (hq : u.seq.state = s.seq.state) : OperatorInv u :=
    hs.of_queue hx (by rw [hq]; exact id)
  cases h with
  | reset => exact operatorInv_of_empty rfl
  | imageRefused => exact hs.of_queue rfl fun _ => .inr rfl
  | imageAccepted cfg _ off =>
    refine operatorInv_of_empty ?_
    have empty := hs.2 (by simp [off]) (by simp [off])
    simpa [acceptImage] using empty
  | mismatchHalts | frameHalts => exact hs.of_queue (by simp [enterHalted]) fun _ => .inr (by simp [enterHalted])
  | frameTaken _ cls heading payload => exact operatorInv_settleMembership (operatorInv_takePayload (setup (by simp) (by simp)) ..)
  | attemptFailed _ _ mismatches =>
    rcases afterFailure_cases (failedAttempt mismatches s) with ⟨-, e⟩ | ⟨-, e⟩ <;> rw [e]
    · exact operatorInv_of_empty (by simp [enterWithdrawn])
    · exact setup (by simp) (by simp)
  | ownFrame a live =>
    have sent : OperatorInv (frameSent a s) := setup (by simp) (by simp)
    exact (operatorInv_takeOwn sent a.content).of_queue (by simp) (by simp)
  | listenExpired state | holdOffExpired state => exact hs.of_queue (by simp) (by simp [state])
  | syncExpired => exact (operatorInv_enterSynced (s := newMoment s) hs).of_queue (by simp) (by simp)
  | stationAbsent n => exact operatorInv_settleMembership (setup (by simp) (by simp))
  | buttonSampled _ b pin d =>
    exact (operatorInv_buttonDebounced (setup (u := newMoment (setButtonPin b pin s)) (by simp) (by simp)) b d).of_queue (by simp) (by simp)
  | buttonSettled b d =>
    exact (operatorInv_buttonDebounced (setup (u := newMoment s) (by simp) (by simp)) b d).of_queue (by simp) (by simp)
  | activityExpired => exact setup (by simp [settleHorn]) (by simp)
  | nothing | supplyRose | released | imageRead | attemptStarted | arbitrationLost | frameFaulty | frameDiscarded | repairExpired
  | presenceExpired | testExpired | fieldPinSet | buttonPinSet | lineSampled | lineSettled =>
    exact setup (by simp) (by simp)

theorem panelOver_queue (s : State) : (panelOver s).queue = s.panel.queue := by
  unfold panelOver
  split <;> rfl

theorem operatorInv_tick {s : State} (hs : OperatorInv s) : OperatorInv (tick s) :=
  hs.of_queue (panelOver_queue s) id

/-- Settles O53: `reportInv_effect` and `operatorInv_effect`; every place that empties a report slot or brings SYNCED ends in `reconcile`. -/
theorem queuesStayWithinBounds : Obligations.QueuesStayWithinBounds :=
  ⟨step_keeps_of_effect (fun _ _ hs => hs) (fun _ => reportInv_tick) fun _ _ _ => reportInv_effect,
    step_keeps_of_effect (fun _ _ hs => hs) (fun _ => operatorInv_tick) fun _ _ _ => operatorInv_effect⟩

end Sys2Proof.Machine
end

section
/-! PROOFS. The entries queued for a scanned line lead from its point's implied level to its reported level, through every step (R121, R123,
R124, R129). -/

namespace Sys2Proof.Machine

open Sys2Proof

/-! ## Levels and reports -/

@[simp] theorem levelOfReport_reportOf (level : Level) : levelOfReport (reportOf level) = level := by cases level <;> rfl

theorem levelAfter_append {level reached : Level} {es : List ReportEvent} (h : levelAfter level es = some reached) {e : ReportEvent}
    (he : levelOfReport e ≠ reached) : levelAfter level (es ++ [e]) = some (levelOfReport e) := by
  induction es generalizing level with
  | nil =>
    cases h
    simp [levelAfter, he]
  | cons x rest ih =>
    simp only [List.cons_append, levelAfter] at h ⊢
    split at h
    · cases h
    · next hx => rw [if_neg hx, ih h]

theorem levelAfter_cons {level reached : Level} {e : ReportEvent} {es : List ReportEvent} (h : levelAfter level (e :: es) = some reached) :
    levelAfter (levelOfReport e) es = some reached := by
  rw [levelAfter] at h
  split at h
  · cases h
  · exact h

/-- A carried record reads back as it was, unless it is LOST (R18, R55). -/
theorem recordOfWire_wireOfRecord {r : PointRecord} (h : r.state ≠ .lost) : recordOfWire (wireOfRecord r) = some r := by
  unfold recordOfWire
  rw [wireOfRecord, stateOfCode_codeOfState]
  split
  · next e => cases e
  · next e => exact absurd (Option.some.inj e) h
  · next state _ e =>
    cases e
    rfl

/-- The record computed for a report stands for the level reported, when the owner's own is not LOST (R8, R9, R13). -/
theorem impliedLevel_trip {r : PointRecord} (h : r.state ≠ .lost) (flag : Bool) (mark : Word) :
    impliedLevel (trip flag mark r).state = some .abnormal := by
  unfold trip
  cases hr : r.state with
  | lost => exact absurd hr h
  | alert | held => simp [hr, impliedLevel]
  | quiet | ringback | returned => simp [impliedLevel]

theorem impliedLevel_clear {r : PointRecord} (h : r.state ≠ .lost) (lockIn ringback : Bool) :
    impliedLevel (clear lockIn ringback r).state = some .normal := by
  unfold clear
  cases hr : r.state with
  | lost => exact absurd hr h
  | alert => cases lockIn <;> rfl
  | held => cases ringback <;> rfl
  | quiet | returned | ringback => simp [hr, impliedLevel]

theorem impliedLevel_reportedRecord {cfg : Configuration} {records : Records} {p : PointIndex} (h : records[p].state ≠ .lost)
    (orderCount : Word) (event : ReportEvent) :
    impliedLevel (reportedRecord cfg records orderCount event p).state = some (levelOfReport event) := by
  cases event with
  | trip => exact impliedLevel_trip h _ _
  | clear => exact impliedLevel_clear h _ _

/-! ## The chain of one line's reports -/

/-- R123 of a configuration, a point table and a scanner. -/
def ChainFits (cfg : Configuration) (records : Records) (scanner : InputScanner) : Prop :=
  ∀ (l : InputLine) (p : PointIndex), pointOfLine cfg l = some p →
    ∃ level, impliedLevel records[p].state = some level ∧ levelAfter level (eventsOf scanner l) = some scanner.lines[l].reported

theorem ChainFits.of_keepsOwn {cfg : Configuration} {records records' : Records} {scanner : InputScanner}
    (h : ChainFits cfg records scanner) (kept : KeepsOwn cfg records records') : ChainFits cfg records' scanner := by
  intro l p hp
  rw [(kept p).1 (pointOfLine_some hp).1]
  exact h l p hp

/-- The chain rests on the queue and the reported levels alone. -/
theorem ChainFits.of_scanner {cfg : Configuration} {records : Records} {scanner scanner' : InputScanner}
    (h : ChainFits cfg records scanner) (hq : scanner'.queue = scanner.queue)
    (hr : ∀ l : InputLine, scanner'.lines[l].reported = scanner.lines[l].reported) : ChainFits cfg records scanner' := by
  intro l p hp
  rw [eventsOf, hq, hr l]
  exact h l p hp

theorem chainFits_of_blank {cfg : Configuration} (hc : cfg = blankConfiguration) (records : Records) (scanner : InputScanner) :
    ChainFits cfg records scanner := by
  intro l p hp
  have own := (pointOfLine_some hp).1
  rw [hc, isOwn_blank] at own
  cases own

/-- An append reports the line away from the level it was last reported at (R120, R121). -/
theorem ChainFits.appendReport {cfg : Configuration} {records : Records} {scanner : InputScanner} (h : ChainFits cfg records scanner)
    {l : InputLine} (hl : isUnreported cfg scanner l = true) : ChainFits cfg records (Machine.appendReport scanner l) := by
  intro m p hp
  obtain ⟨level, implied, after⟩ := h m p hp
  refine ⟨level, implied, ?_⟩
  simp only [isUnreported, Bool.and_eq_true, bne_iff_ne] at hl
  by_cases hm : m = l
  · subst hm
    have e : eventsOf (Machine.appendReport scanner m) m = eventsOf scanner m ++ [reportOf scanner.lines[m].debouncer.stable] := by
      simp [eventsOf]
    have r : (Machine.appendReport scanner m).lines[m].reported = scanner.lines[m].debouncer.stable := by
      simp [Machine.appendReport]
    rw [e, r, levelAfter_append after (by simpa using hl.1), levelOfReport_reportOf]
  · have e : eventsOf (Machine.appendReport scanner l) m = eventsOf scanner m := by
      simp [eventsOf, Ne.symm hm]
    have r : (Machine.appendReport scanner l).lines[m].reported = scanner.lines[m].reported := by
      rw [Machine.appendReport]
      rw [set_get_other _ _ _ _ hm]
    rw [e, r]
    exact after

theorem ChainFits.reconcileRounds {cfg : Configuration} {records : Records} {scanner : InputScanner} (h : ChainFits cfg records scanner)
    (rounds : Nat) : ChainFits cfg records (Machine.reconcileRounds cfg rounds scanner) := by
  induction rounds generalizing scanner with
  | zero => exact h
  | succ n ih =>
    rw [Machine.reconcileRounds]
    split
    · split
      · exact h
      · next l found => exact ih (h.appendReport (by simpa using List.find?_some found))
    · exact h

theorem ChainFits.reconcile {s : State} (h : ChainFits s.cfg s.points s.scanner) :
    ChainFits s.cfg s.points (Machine.reconcile s).scanner := by
  unfold Machine.reconcile
  split
  · exact h.reconcileRounds _
  · exact h

theorem ChainFits.enterSynced {s : State} (h : ChainFits s.cfg s.points s.scanner) :
    ChainFits s.cfg s.points (Machine.enterSynced s).scanner :=
  ChainFits.reconcile
    (s := restartWholeGrid
      (s.setSeq
        { s.seq with
          state := .synced, syncTimer := none, orderCount := if foundsCount s then 0 else s.seq.orderCount
          countValid := s.seq.countValid || foundsCount s }))
    h

theorem ChainFits.synchronise {s : State} (h : ChainFits s.cfg s.points s.scanner) :
    ChainFits s.cfg s.points (Machine.synchronise s).scanner := by
  rcases synchronise_cases s with ⟨-, -, -, e⟩ | e <;> rw [e]
  · exact h.enterSynced
  · exact h

theorem ChainFits.lineDebounced {s : State} (h : ChainFits s.cfg s.points s.scanner) (l : InputLine) (d : Debouncer Level) :
    ChainFits s.cfg s.points (Machine.lineDebounced l d s).scanner := by
  have set : ChainFits s.cfg s.points (setLineDebouncer l d s).scanner := by
    refine h.of_scanner rfl fun m => ?_
    by_cases hm : m = l
    · subst hm
      simp [setLineDebouncer]
    · simp only [setLineDebouncer, State.scanner_setScanner, set_get_other _ _ _ _ hm]
  unfold Machine.lineDebounced
  split
  · exact set
  · exact ChainFits.reconcile (s := raise classInput (setLineDebouncer l d s)) set

/-- A soft restart re-bases the reported levels on the own points (R129). -/
theorem chainFits_softRestart {s : State} (own : OwnKnownInv s) : ChainFits s.cfg (softRestart s).points (softRestart s).scanner := by
  intro l p hp
  have hown := (pointOfLine_some hp).1
  cases hl : impliedLevel s.points[p].state with
  | none => exact absurd ((impliedLevel_eq_none _).1 hl) (own p hown)
  | some level =>
    refine ⟨level, ?_, ?_⟩
    · rw [softRestart_points, loseOthers_get, hown]
      simpa using hl
    · have rebased : (softRestart s).scanner.lines[l] = { s.scanner.lines[l] with reported := level } := by
        simp only [softRestart, enterListening_keeps, Fin.getElem_fin, tabulate_get, rebasedLine, hp]
        simp only [Fin.getElem_fin] at hl
        simp [hl]
      rw [rebased]
      rfl

/-- The first samples report nothing: every own point is QUIET and every line was last reported normal (R26, R128). -/
theorem chainFits_acceptImage (cfg : Configuration) (s : State) : ChainFits cfg (acceptImage cfg s).points (acceptImage cfg s).scanner := by
  intro l p hp
  refine ⟨.normal, ?_, ?_⟩
  · rw [acceptImage_points_get, (pointOfLine_some hp).1]
    simp [quietRecord, impliedLevel]
  · simp [eventsOf, acceptImage, levelAfter, firstSample, hp, restingLine]

/-! ## The head of the queue -/

theorem reconcileRounds_prefix (cfg : Configuration) (rounds : Nat) (scanner : InputScanner) :
    scanner.queue <+: (reconcileRounds cfg rounds scanner).queue := by
  induction rounds generalizing scanner with
  | zero => exact List.prefix_rfl
  | succ n ih =>
    rw [reconcileRounds]
    split
    · split
      · exact List.prefix_rfl
      · next l _ => exact (List.prefix_append scanner.queue _).trans (ih (appendReport scanner l))
    · exact List.prefix_rfl

theorem reconcile_prefix (s : State) : s.scanner.queue <+: (reconcile s).scanner.queue := by
  unfold reconcile
  split
  · exact reconcileRounds_prefix ..
  · exact List.prefix_rfl

/-- Entries behind the head may join it while its frame stands on the line (R50, R124). -/
theorem PointAttemptFits.of_prefix {s t : State} (hs : PointAttemptFits s) (ha : t.line.attempt = s.line.attempt)
    (hd : t.loader.digest = s.loader.digest) (hc : t.cfg = s.cfg) (hq : s.scanner.queue <+: t.scanner.queue) : PointAttemptFits t := by
  intro a p w d live content
  rw [ha] at live
  obtain ⟨digest, e, rest, r, queue, line, wire, level⟩ := hs a p w d live content
  obtain ⟨behind, hb⟩ := hq
  exact ⟨hd.trans digest, e, rest ++ behind, r, by rw [← hb, queue]; rfl, by rw [hc]; exact line, wire, level⟩

theorem pointAttemptFits_of_none {t : State} (h : t.line.attempt = none) : PointAttemptFits t := by
  intro a p w d live
  rw [h] at live
  cases live

/-- A POINT frame selected is that of the head report (R49, R124). -/
theorem buildPoint_of_selectAttempt {s : State} {a : Attempt} (h : selectAttempt s = some a) {p : PointIndex} {w : WireRecord} {d : Word}
    (hc : a.content = .point p w d) : buildPoint s = some (.point p w d) := by
  unfold selectAttempt at h
  split at h
  · cases h
  · next src _ =>
    obtain ⟨content, built, rfl⟩ := Option.map_eq_some_iff.1 h
    simp only at hc
    subst hc
    cases src with
    | reportQueue => exact built
    | operatorQueue => simp only [buildFrame, buildOperator] at built; split at built <;> cases built
    | sequencer | timerT0 => cases built
    | transferUnit => simp only [buildFrame, buildSnapshot] at built; split at built <;> cases built
    | membershipTable => simp [buildFrame] at built
    | serviceResponder => simp only [buildFrame, buildReply] at built; split at built <;> cases built

@[simp] theorem released_digest (source : ResetSource) (s : State) : (released source s).loader.digest = s.loader.digest := by
  unfold released
  split <;> rfl

/-- The frame an attempt starts with reports what its entry does (R15, R50, R124). -/
theorem pointAttemptFits_selected {s : State} {a : Attempt} (own : OwnKnownInv s)
    (digest : ∀ p : PointIndex, isOwn s.cfg p = true → s.loader.digest.isSome = true) (h : selectAttempt s = some a) :
    PointAttemptFits (s.setLine { s.line with attempt := some a, drive := .frame, awaitsGap := false }) := by
  intro a' p w d live hc
  cases live
  have built := buildPoint_of_selectAttempt h hc
  unfold buildPoint at built
  split at built
  · cases built
  · next e rest hq =>
    obtain ⟨p', hp, hcontent⟩ := Option.map_eq_some_iff.1 built
    cases hcontent
    have hown := (pointOfLine_some hp).1
    have known := own p hown
    have level := impliedLevel_reportedRecord (cfg := s.cfg) known s.seq.orderCount e.event
    have notLost : (reportedRecord s.cfg s.points s.seq.orderCount e.event p).state ≠ .lost := by
      rw [Ne, ← impliedLevel_eq_none, level]
      simp
    obtain ⟨word, hword⟩ := Option.isSome_iff_exists.1 (digest p hown)
    exact ⟨by simp [ownDigest, hword], e, rest, _, hq, hp, recordOfWire_wireOfRecord notLost, level⟩

/-- The end of the own POINT frame takes the first report off the chain of its line (R17, R123, R124). -/
theorem ChainFits.head_taken {cfg : Configuration} {records : Records} {scanner : InputScanner} (h : ChainFits cfg records scanner)
    {e : ReportEntry} {rest : List ReportEntry} {p : PointIndex} {r : PointRecord} (queue : scanner.queue = e :: rest)
    (line : pointOfLine cfg e.line = some p) (level : impliedLevel r.state = some (levelOfReport e.event)) :
    ChainFits cfg (writeRecord cfg records p r) { scanner with queue := rest } := by
  intro l q hq
  obtain ⟨before, implied, after⟩ := h l q hq
  by_cases hl : e.line = l
  · subst hl
    rw [line] at hq
    cases hq
    have events : eventsOf scanner e.line = e.event :: eventsOf { scanner with queue := rest } e.line := by simp [eventsOf, queue]
    rw [events] at after
    exact ⟨_, by rw [writeRecord_state, if_pos rfl]; exact level, levelAfter_cons after⟩
  · have hqp : q ≠ p := fun e' => hl (by rw [← (pointOfLine_some line).2, ← e', (pointOfLine_some hq).2])
    have events : eventsOf scanner l = eventsOf { scanner with queue := rest } l := by simp [eventsOf, queue, hl]
    exact ⟨before, by rw [writeRecord_state, if_neg hqp]; exact implied, events ▸ after⟩

/-- What the end of an own POINT frame that fits leaves of the points and the queue (R17, R124). -/
theorem ownPoint_written {s : State} {p : PointIndex} {w : WireRecord} {d : Word} {r : PointRecord} (hd : s.loader.digest = some d)
    (hp : isOwn s.cfg p = true) (hr : recordOfWire w = some r) :
    (takePoint (sentField s) p w d s).points = writeRecord s.cfg s.points p r := by
  obtain ⟨hsome, hself⟩ := (isOwn_iff s.cfg p).1 hp
  obtain ⟨n, hn⟩ := Option.isSome_iff_exists.1 hsome
  rw [takePoint_own (stationOfField_sentField s), writePoint]
  have sent : stationOfField (sentField s) = some n := by rw [stationOfField_sentField, ← hself, hn]
  have owned : ownedBy s.cfg n p = true := (ownedBy_iff s.cfg n p).2 hn
  simp [sent, digestMatches, hd, owned, hr]

/-! ## Every command -/

theorem chainFits_takeOwn {s : State} (h : ChainFits s.cfg s.points s.scanner) {content : FrameContent}
    (fits : ∀ p w d, content = .point p w d → s.loader.digest = some d
      ∧ ∃ (e : ReportEntry) (rest : List ReportEntry) (r : PointRecord),
          s.scanner.queue = e :: rest ∧ pointOfLine s.cfg e.line = some p ∧ recordOfWire w = some r
            ∧ impliedLevel r.state = some (levelOfReport e.event)) :
    ChainFits s.cfg (takeOwn content s).points (takeOwn content s).scanner := by
  cases content with
  | point p w d =>
    obtain ⟨digest, e, rest, r, queue, line, wire, level⟩ := fits p w d rfl
    have taken : ChainFits s.cfg (writeRecord s.cfg s.points p r) { s.scanner with queue := rest } := h.head_taken queue line level
    have after : (takePoint (sentField s) p w d s).points = writeRecord s.cfg s.points p r :=
      ownPoint_written digest (pointOfLine_some line).1 wire
    have cfg : (takePoint (sentField s) p w d s).cfg = s.cfg := (takenFrame_takePoint ..).cfg
    have reconciled := ChainFits.reconcile
      (s := (takePoint (sentField s) p w d s).setScanner { s.scanner with queue := s.scanner.queue.tail })
      (by simpa [after, cfg, queue] using taken)
    simpa [takeOwn, cfg] using reconciled
  | operator op g hz d =>
    have taken := takenFrame_takeOperator (sentField s) op g hz d s
    simp only [takeOwn, State.points_setPanel, State.scanner_setPanel, taken.scanner]
    refine h.of_keepsOwn ?_
    rw [takeOperator_own (stationOfField_sentField s)]
    split
    · exact keepsOwn_operateGroups s.cfg op g hz s.points
    · exact .refl _ _
  | join _ _ =>
    simp only [takeOwn, joinSent_keeps]
    unfold joinSent
    split
    · split
      · exact h
      · exact ChainFits.enterSynced h
    · exact h
  | start _ _ _ _ | data _ _ _ | presence _ _ _ | query _ | reply _ _ _ => exact h

theorem chainFits_takePayload {s : State} (h : ChainFits s.cfg s.points s.scanner) (own : OwnKnownInv s) {f : StationField}
    (hf : ∀ n, stationOfField f = some n → s.cfg.self ≠ some n) (cls : FrameClass) (payload : List Byte) :
    ChainFits s.cfg (takePayload cls f payload s).points (takePayload cls f payload s).scanner := by
  rcases takePayload_cases cls f payload s with ⟨_, -, -, e⟩ | taken
  · rw [e]
    have heard : OwnKnownInv (hearOnly f s) := own.of_keepsOwn (by simp) (keepsOwn_hear f _ _ _ s)
    simpa using chainFits_softRestart heard
  · rw [taken.scanner]
    exact h.of_keepsOwn (keepsOwn_takePayload hf cls payload)

theorem chainFits_effect {s t : State} {c : Instr} (hs : ReportChainInv s) (h : Effect s c t) : ChainFits t.cfg t.points t.scanner := by
  obtain ⟨chain, attempt, -, -, own⟩ := hs
  have chain : ChainFits s.cfg s.points s.scanner := chain
  cases h with
  | reset | imageRefused => exact chainFits_of_blank rfl _ _
  | imageAccepted cfg => simpa using chainFits_acceptImage cfg s
  | frameTaken _ cls heading payload _ _ other =>
    have taken := chainFits_takePayload (s := listeningFrame (gapSeen s)) (by simpa using chain) (by simpa [OwnKnownInv] using own)
      (by simpa using other_of_ownField other) cls payload
    simpa using ChainFits.synchronise (s := takePayload cls heading.sender payload (listeningFrame (gapSeen s))) (by simpa using taken)
  | ownFrame a live =>
    have taken := chainFits_takeOwn (s := frameSent a s) (by simpa using chain) (content := a.content)
      (by simpa using fun p w d => attempt a p w d (transmits_of_liveAttempt live).2)
    simpa using taken
  | attemptFailed _ _ mismatches =>
    simp only [afterFailure_keeps, failedAttempt_keeps]
    refine chain.of_keepsOwn ?_
    rcases afterFailure_cases (failedAttempt mismatches s) with ⟨-, e⟩ | ⟨-, e⟩ <;> rw [e]
    · simpa [enterWithdrawn] using keepsOwn_loseOthers s.cfg s.points
    · simpa using KeepsOwn.refl s.cfg s.points
  | holdOffExpired => simpa using chain.of_keepsOwn (by simpa [enterListening] using keepsOwn_loseOthers s.cfg s.points)
  | stationAbsent n =>
    have moved := keepsOwn_moveEntry n { state := .absent, ageMs := 0, lastDigest := s.members.entries[n].lastDigest } (newMoment s)
    simpa using ChainFits.synchronise (s := moveEntry n _ (newMoment s)) (by simpa using chain.of_keepsOwn (by simpa using moved))
  | syncExpired => simpa using ChainFits.enterSynced (s := newMoment s) chain
  | lineSampled _ l pin d => simpa using ChainFits.lineDebounced (s := newMoment (setFieldPin l pin s)) (by simpa using chain) l d
  | lineSettled l d => simpa using ChainFits.lineDebounced (s := newMoment s) (by simpa using chain) l d
  | nothing | supplyRose | released | imageRead | attemptStarted | arbitrationLost | mismatchHalts | frameFaulty | frameDiscarded
  | frameHalts | listenExpired | repairExpired | presenceExpired | activityExpired | testExpired | fieldPinSet | buttonPinSet
  | buttonSampled | buttonSettled =>
    simpa using chain

theorem enterSynced_prefix (s : State) : s.scanner.queue <+: (enterSynced s).scanner.queue :=
  reconcile_prefix
    (restartWholeGrid
      (s.setSeq
        { s.seq with
          state := .synced, syncTimer := none, orderCount := if foundsCount s then 0 else s.seq.orderCount
          countValid := s.seq.countValid || foundsCount s }))

theorem synchronise_prefix (s : State) : s.scanner.queue <+: (synchronise s).scanner.queue := by
  rcases synchronise_cases s with ⟨-, -, -, e⟩ | e <;> rw [e]
  exact enterSynced_prefix s

theorem lineDebounced_prefix (l : InputLine) (d : Debouncer Level) (s : State) :
    s.scanner.queue <+: (lineDebounced l d s).scanner.queue := by
  unfold lineDebounced
  split
  · exact List.prefix_rfl
  · exact reconcile_prefix (raise classInput (setLineDebouncer l d s))

theorem pointAttemptFits_effect {s t : State} {c : Instr} (hs : ReportChainInv s) (h : Effect s c t) : PointAttemptFits t := by
  obtain ⟨-, attempt, digest, off, own⟩ := hs
  cases h with
  | reset => exact pointAttemptFits_of_none rfl
  | imageRefused _ ho => exact pointAttemptFits_of_none (off ho)
  | imageAccepted _ _ ho => exact pointAttemptFits_of_none (by simpa using off ho)
  | attemptFailed _ _ mismatches =>
    refine pointAttemptFits_of_none ?_
    rcases afterFailure_cases (failedAttempt mismatches s) with ⟨-, e⟩ | ⟨-, e⟩ <;> rw [e] <;> simp [enterWithdrawn]
  | arbitrationLost | ownFrame | frameFaulty | frameDiscarded | frameTaken => exact pointAttemptFits_of_none (by simp)
  | mismatchHalts | frameHalts => exact pointAttemptFits_of_none (by simp [enterHalted])
  | attemptStarted a _ selected => exact pointAttemptFits_selected own digest selected
  | syncExpired => exact attempt.of_prefix (by simp) (by simp) (by simp) (by simpa using enterSynced_prefix (newMoment s))
  | stationAbsent n => exact attempt.of_prefix (by simp) (by simp) (by simp) (by simpa using synchronise_prefix (moveEntry n _ (newMoment s)))
  | lineSampled _ l pin d =>
    exact attempt.of_prefix (by simp) (by simp) (by simp) (by simpa using lineDebounced_prefix l d (newMoment (setFieldPin l pin s)))
  | lineSettled l d => exact attempt.of_prefix (by simp) (by simp) (by simp) (by simpa using lineDebounced_prefix l d (newMoment s))
  | holdOffExpired => exact attempt.of_prefix (by simp [awaitGap]) (by simp) (by simp) (by simp)
  | nothing | supplyRose | released | imageRead | listenExpired | repairExpired | presenceExpired | activityExpired
  | testExpired | fieldPinSet | buttonPinSet | buttonSampled | buttonSettled =>
    exact attempt.of_prefix (by simp) (by simp) (by simp) (by simp)

/-- A configuration with points of the station's own is held with a digest alone (R189, R199). -/
theorem digestHeld_effect {s t : State} {c : Instr} (hs : ∀ p : PointIndex, isOwn s.cfg p = true → s.loader.digest.isSome = true)
    (h : Effect s c t) (p : PointIndex) (hp : isOwn t.cfg p = true) : t.loader.digest.isSome = true := by
  cases h with
  | reset | imageRefused => exact absurd (isOwn_blank p) (by rw [show isOwn blankConfiguration p = true from hp]; decide)
  | imageAccepted => simp
  | _ => exact by simpa using hs p (by simpa using hp)

theorem reportChainInv_effect {s t : State} {c : Instr} (hs : ReportChainInv s) (h : Effect s c t) : ReportChainInv t := by
  refine ⟨chainFits_effect hs h, pointAttemptFits_effect hs h, ?_, fun ht => ?_, ?_⟩
  · exact digestHeld_effect hs.2.2.1 h
  · rcases effect_into_off h ht with ⟨source, rfl⟩ | ⟨off, -, kept⟩
    · rfl
    · rw [kept]; exact hs.2.2.2.1 off
  · exact ownKnownInv_effect hs.2.2.2.2 h

theorem reportChainInv_tick {s : State} (hs : ReportChainInv s) : ReportChainInv (tick s) := by
  obtain ⟨chain, attempt, digest, off, own⟩ := hs
  have chain : ChainFits s.cfg s.points s.scanner := chain
  exact ⟨chain.of_scanner (scannerOver_queue s) fun l => (scannerOver_line s l).2,
    attempt.of_prefix rfl rfl rfl (by rw [tick_scanner, scannerOver_queue]), digest, off, own⟩

/-- Settles O54: every report appended moves its line from its reported level, and the own POINT frame takes off the head it was built from. -/
theorem queuedReportsLeadToTheReportedLevel : Obligations.QueuedReportsLeadToTheReportedLevel :=
  step_keeps_of_effect (fun _ _ hs => hs) (fun _ => reportChainInv_tick) fun _ _ _ => reportChainInv_effect

end Sys2Proof.Machine
end

section
/-! PROOFS. The activity timers and the horn follow the state after every step, and the horn keeps its cycle (R144, R145, R152, R153, R155). -/

namespace Sys2Proof.Machine

open Sys2Proof

/-! ## The moments a command comes to -/

/-- The horn sounds as it did, at the same phase of its cycle. -/
def SameHorn (s t : State) : Prop := t.panel.horn = s.panel.horn ∧ t.panel.hornPhaseMs = s.panel.hornPhaseMs

/-- Nothing that the timers and the horn rest on has moved, nor have they. -/
structure SameClocks (s t : State) : Prop where
  cfg : t.cfg = s.cfg
  points : t.points = s.points
  lineState : t.seq.state = s.seq.state
  t0 : t.timers.t0 = s.timers.t0
  t1 : t.timers.t1 = s.timers.t1
  t2 : t.timers.t2 = s.timers.t2
  t3 : t.timers.t3 = s.timers.t3
  horn : SameHorn s t

/-- What a command comes to for the timers and the horn: a moment settled, nothing, or one of the four commands that set them otherwise. -/
inductive Moment (s t : State) : Prop
  | settled (u : State) (e : t = settle u) (t0 : u.timers.t0 = s.timers.t0) (horn : SameHorn s u)
  | unmoved (kept : SameClocks s t)
  | reset (source : ResetSource) (e : t = takeHardwareReset source s)
  | refused (off : s.seq.state = .off) (e : t = refuseImage s)
  | presenceExpired (due : s.timers.t0 = .counting 0)
      (e : t = (newMoment s).setTimers { s.timers with t0 := .counting s.cfg.presenceMs, presencePending := true })
  | activityExpired (timer : ActivityTimer) (due : timerOf s.timers timer = .counting 0)
      (e : t = settleHorn ((newMoment s).setTimers (withTimer s.timers timer .expired)))

theorem SameHorn.of_panel {s t : State} (h : t.panel = s.panel) : SameHorn s t := by rw [SameHorn, h]; exact ⟨rfl, rfl⟩

theorem SameHorn.trans {s t u : State} (h : SameHorn s t) (g : SameHorn t u) : SameHorn s u := ⟨g.1.trans h.1, g.2.trans h.2⟩

theorem sameHorn_buttonDebounced (b : Button) (d : Debouncer ButtonLevel) (s : State) : SameHorn s (buttonDebounced b d s) := by
  have set : SameHorn s (setButtonDebouncer b d s) := by cases b <;> exact ⟨rfl, rfl⟩
  have pressed (op : Operation) : SameHorn s (pressOperation op (raise classButton (setButtonDebouncer b d s))) := by
    unfold pressOperation
    split <;> exact set
  unfold buttonDebounced
  split
  · exact set
  · split
    · cases b with
      | ack | silence | reset => exact pressed _
      | test => exact set.trans (.of_panel (by simp [press]))
    · cases b with
      | ack | silence | reset | test => exact set

theorem sameHorn_takePayload (cls : FrameClass) (f : StationField) (payload : List Byte) (s : State) :
    SameHorn s (takePayload cls f payload s) ∧ (takePayload cls f payload s).timers.t0 = s.timers.t0 := by
  rcases takePayload_cases cls f payload s with ⟨_, -, -, e⟩ | taken
  · rw [e]
    exact ⟨⟨by simp [softRestart], by simp [softRestart]⟩, by simp [softRestart]⟩
  · exact ⟨.of_panel taken.panel, by rw [taken.timers]⟩

theorem sameHorn_takeOwn (content : FrameContent) (s : State) :
    SameHorn s (takeOwn content s) ∧ (takeOwn content s).timers.t0 = s.timers.t0 := by
  cases content with
  | operator op g h d =>
    have taken := takenFrame_takeOperator (sentField s) op g h d s
    exact ⟨⟨rfl, rfl⟩, by simp [takeOwn, taken.timers]⟩
  | point p w d => exact ⟨.of_panel (by simp [takeOwn, takePoint]), by simp [takeOwn, takePoint]⟩
  | join _ _ | start _ _ _ _ | data _ _ _ | presence _ _ _ | query _ | reply _ _ _ =>
    exact ⟨.of_panel (by simp [takeOwn]), by simp [takeOwn]⟩

theorem effect_moment {s t : State} {c : Instr} (h : Effect s c t) : Moment s t := by
  cases h with
  | reset _ source => exact .reset source rfl
  | imageRefused _ off => exact .refused off rfl
  | presenceExpired due => exact .presenceExpired due rfl
  | activityExpired timer due => exact .activityExpired timer due rfl
  | imageAccepted cfg => exact .settled _ rfl (by simp) ⟨by simp, by simp⟩
  | mismatchHalts => exact .settled _ rfl (by simp) ⟨by simp [enterHalted], by simp [enterHalted]⟩
  | frameHalts => exact .settled _ rfl (by simp) ⟨by simp [enterHalted], by simp [enterHalted]⟩
  | attemptFailed _ _ mismatches =>
    rcases afterFailure_cases (failedAttempt mismatches s) with ⟨-, e⟩ | ⟨-, e⟩ <;> rw [e]
    · exact .settled _ rfl (by simp [enterWithdrawn]) ⟨by simp [enterWithdrawn], by simp [enterWithdrawn]⟩
    · exact .unmoved (by constructor <;> simp [SameHorn])
  | ownFrame a =>
    obtain ⟨horn, t0⟩ := sameHorn_takeOwn a.content (frameSent a s)
    exact .settled _ rfl (by simpa using t0) (by simpa [SameHorn] using horn)
  | frameTaken _ cls heading payload =>
    obtain ⟨horn, t0⟩ := sameHorn_takePayload cls heading.sender payload (listeningFrame (gapSeen s))
    exact .settled _ rfl (by simpa using t0) (by simpa [SameHorn] using horn)
  | stationAbsent n => exact .settled _ rfl (by simp) ⟨by simp, by simp⟩
  | listenExpired | syncExpired | holdOffExpired => exact .settled _ rfl (by simp) ⟨by simp, by simp⟩
  | lineSampled | lineSettled => exact .settled _ rfl (by simp) ⟨by simp, by simp⟩
  | buttonSampled _ b pin d =>
    exact .settled _ rfl (by simp) (by simpa [SameHorn] using sameHorn_buttonDebounced b d (newMoment (setButtonPin b pin s)))
  | buttonSettled b d => exact .settled _ rfl (by simp) (by simpa [SameHorn] using sameHorn_buttonDebounced b d (newMoment s))
  | nothing | supplyRose | released | imageRead | attemptStarted | arbitrationLost | frameFaulty | frameDiscarded | repairExpired
  | testExpired | fieldPinSet | buttonPinSet =>
    exact .unmoved (by constructor <;> simp [SameHorn])

/-! ## The timers -/

/-- The common rule leaves a timer IDLE exactly where it is not armed (R153). -/
theorem armedAs_timerMoment (armed active : Bool) (reloadMs : Nat) (t : TimerState) : armedAs armed (timerMoment armed active reloadMs t) := by
  unfold armedAs timerMoment
  cases armed with
  | false => simp
  | true => cases t <;> cases active <;> simp

theorem timerMoment_expired {armed active : Bool} {reloadMs : Nat} {t : TimerState} (h : t ≠ .expired) :
    timerMoment armed active reloadMs t ≠ .expired := by
  unfold timerMoment
  cases armed with
  | false => simp
  | true => cases t <;> cases active <;> simp_all

@[simp] theorem t0Armed_settle (s : State) : t0Armed (settle s) = t0Armed s := by simp [t0Armed]
@[simp] theorem t1Armed_settle (s : State) : t1Armed (settle s) = t1Armed s := by simp [t1Armed]
@[simp] theorem t2Armed_settle (s : State) : t2Armed (settle s) = t2Armed s := by simp [t2Armed]
@[simp] theorem t3Armed_settle (s : State) : t3Armed (settle s) = t3Armed s := by simp [t3Armed]

/-- A settled moment leaves every timer armed as its condition has it (R153). -/
theorem armedAs_settle (s : State) :
    armedAs (t0Armed (settle s)) (settle s).timers.t0 ∧ armedAs (t1Armed (settle s)) (settle s).timers.t1
      ∧ armedAs (t2Armed (settle s)) (settle s).timers.t2 ∧ armedAs (t3Armed (settle s)) (settle s).timers.t3 := by
  simp only [t0Armed_settle, t1Armed_settle, t2Armed_settle, t3Armed_settle, settle_timers, settleTimers, State.timers_setTimers]
  exact ⟨armedAs_timerMoment .., armedAs_timerMoment .., armedAs_timerMoment .., armedAs_timerMoment ..⟩

theorem timersInv_settle {s : State} (h : s.timers.t0 ≠ .expired) : TimersInv (settle s) := by
  obtain ⟨a0, a1, a2, a3⟩ := armedAs_settle s
  refine ⟨a0, a1, a2, a3, ?_⟩
  simp only [settle_timers, settleTimers, State.timers_setTimers]
  exact timerMoment_expired h

/-- The arming conditions rest on the configuration, the points and the line state (R155, R157, R158, R160). -/
theorem armed_of_same {s t : State} (hc : t.cfg = s.cfg) (hp : t.points = s.points) (hq : t.seq.state = s.seq.state) :
    t0Armed t = t0Armed s ∧ t1Armed t = t1Armed s ∧ t2Armed t = t2Armed s ∧ t3Armed t = t3Armed s := by
  simp [t0Armed, t1Armed, t2Armed, t3Armed, hc, hp, hq]

theorem TimersInv.of_clocks {s t : State} (hs : TimersInv s) (h : SameClocks s t) : TimersInv t := by
  obtain ⟨a0, a1, a2, a3⟩ := armed_of_same h.cfg h.points h.lineState
  unfold TimersInv
  rw [a0, a1, a2, a3, h.t0, h.t1, h.t2, h.t3]
  exact hs

/-- In OFF and HALTED no timer is armed (R155, R157). -/
theorem armed_of_stopped {s : State} (hx : transmits s.seq.state = false) (hp : panelRuns s.seq.state = false) :
    t0Armed s = false ∧ t1Armed s = false ∧ t2Armed s = false ∧ t3Armed s = false := by
  simp [t0Armed, t1Armed, t2Armed, t3Armed, hx, hp]

theorem timersInv_effect {s t : State} {c : Instr} (hs : TimersInv s) (h : Effect s c t) : TimersInv t := by
  obtain ⟨a0, a1, a2, a3, rest⟩ := hs
  cases effect_moment h with
  | settled u e t0 _ =>
    subst e
    exact timersInv_settle (by rw [t0]; exact rest)
  | unmoved kept => exact TimersInv.of_clocks ⟨a0, a1, a2, a3, rest⟩ kept
  | reset source e =>
    subst e
    exact ⟨by simp [armedAs, takeHardwareReset, State.reset, t0Armed, transmits],
      by simp [armedAs, takeHardwareReset, State.reset, t1Armed, panelRuns],
      by simp [armedAs, takeHardwareReset, State.reset, t2Armed, panelRuns],
      by simp [armedAs, takeHardwareReset, State.reset, t3Armed, panelRuns], by simp [takeHardwareReset, State.reset]⟩
  | refused off e =>
    subst e
    obtain ⟨o0, o1, o2, o3⟩ := armed_of_stopped (s := s) (by rw [off]; rfl) (by rw [off]; rfl)
    obtain ⟨h0, h1, h2, h3⟩ := armed_of_stopped (s := refuseImage s) rfl rfl
    rw [TimersInv, h0, h1, h2, h3]
    rw [o0] at a0
    rw [o1] at a1
    rw [o2] at a2
    rw [o3] at a3
    exact ⟨a0, a1, a2, a3, rest⟩
  | presenceExpired due e =>
    subst e
    have armed : t0Armed s = true := by
      by_contra hn
      rw [due, armedAs] at a0
      cases a0.2 (by simpa using hn)
    exact ⟨by rw [armedAs]; simpa [t0Armed] using armed, a1, a2, a3, by simp⟩
  | activityExpired timer due e =>
    subst e
    obtain ⟨b0, b1, b2, b3⟩ := armed_of_same (s := s) (t := settleHorn ((newMoment s).setTimers (withTimer s.timers timer .expired)))
      (by simp) (by simp) (by simp)
    rw [TimersInv, b0, b1, b2, b3]
    cases timer with
    | t1 =>
      simp only [timerOf] at due
      simp only [settleHorn_keeps, State.timers_setTimers, withTimer]
      rw [due] at a1
      exact ⟨a0, by simpa [armedAs] using a1, a2, a3, rest⟩
    | t2 =>
      simp only [timerOf] at due
      simp only [settleHorn_keeps, State.timers_setTimers, withTimer]
      rw [due] at a2
      exact ⟨a0, a1, by simpa [armedAs] using a2, a3, rest⟩
    | t3 =>
      simp only [timerOf] at due
      simp only [settleHorn_keeps, State.timers_setTimers, withTimer]
      rw [due] at a3
      exact ⟨a0, a1, a2, by simpa [armedAs] using a3, rest⟩

theorem countDownTimer_eq_idle (t : TimerState) : countDownTimer t = .idle ↔ t = .idle := by cases t <;> simp [countDownTimer]

theorem countDownTimer_eq_expired (t : TimerState) : countDownTimer t = .expired ↔ t = .expired := by cases t <;> simp [countDownTimer]

theorem timersInv_tick {s : State} (hs : TimersInv s) : TimersInv (tick s) := by
  obtain ⟨a0, a1, a2, a3, rest⟩ := hs
  have counts {armed : Bool} {t : TimerState} (h : armedAs armed t) : armedAs armed (countDownTimer t) := by
    rw [armedAs, countDownTimer_eq_idle]
    exact h
  exact ⟨counts a0, counts a1, counts a2, counts a3, (countDownTimer_eq_expired _).not.2 rest⟩

/-! ## The horn -/

theorem HornInv.of_clocks {s t : State} (hs : HornInv s) (h : SameClocks s t) : HornInv t := by
  have pattern : hornPattern t = hornPattern s := by simp [hornPattern, h.cfg, h.points, h.lineState, h.t3]
  unfold HornInv
  rw [h.horn.1, h.horn.2, pattern]
  exact hs

/-- Where the horn is settled from a state that sounds as it did, its cycle runs on or starts anew (R144). -/
theorem settleHorn_phase (s : State) :
    (settleHorn s).panel.hornPhaseMs
      = if s.panel.horn = .intermittent ∧ (settleHorn s).panel.horn = .intermittent then s.panel.hornPhaseMs else 0 := by
  simp [settleHorn]

theorem settleHorn_horn (s : State) : (settleHorn s).panel.horn = hornPattern (settleHorn s) := by simp [settleHorn, hornPattern]

theorem hornInv_settleHorn {s : State} (h : s.panel.hornPhaseMs < 4000) : HornInv (settleHorn s) := by
  refine ⟨settleHorn_horn s, ?_⟩
  rw [settleHorn_phase]
  split <;> omega

theorem hornInv_effect {s t : State} {c : Instr} (hs : HornInv s) (h : Effect s c t) : HornInv t := by
  cases effect_moment h with
  | settled u e _ horn =>
    subst e
    exact hornInv_settleHorn (s := settleTimers u) (by simpa [horn.2] using hs.2)
  | unmoved kept => exact hs.of_clocks kept
  | reset source e =>
    subst e
    exact ⟨by simp [hornPattern, takeHardwareReset, State.reset, panelRuns], by simp [takeHardwareReset, State.reset]⟩
  | refused off e =>
    subst e
    obtain ⟨horn, phase⟩ := hs
    refine ⟨?_, phase⟩
    change s.panel.horn = _
    rw [horn]
    simp [hornPattern, off, refuseImage, panelRuns]
  | presenceExpired _ e => subst e; exact hs
  | activityExpired timer _ e =>
    subst e
    exact hornInv_settleHorn (by simpa using hs.2)

theorem tick_horn (s : State) : (tick s).panel.horn = s.panel.horn := by
  change (panelOver s).horn = _
  unfold panelOver
  split <;> rfl

theorem tick_hornPhase (s : State) :
    (tick s).panel.hornPhaseMs = if s.panel.horn = .intermittent then (s.panel.hornPhaseMs + 1) % 4000 else s.panel.hornPhaseMs := by
  change (panelOver s).hornPhaseMs = _
  unfold panelOver
  split <;> rfl

theorem hornInv_tick {s : State} (hs : HornInv s) : HornInv (tick s) := by
  obtain ⟨horn, phase⟩ := hs
  refine ⟨?_, ?_⟩
  · rw [tick_horn, horn]
    have expired : ((tick s).timers.t3 != .expired) = (s.timers.t3 != .expired) := by
      change (countDownTimer s.timers.t3 != .expired) = _
      cases s.timers.t3 <;> rfl
    simp only [hornPattern, expired]
    rfl
  · rw [tick_hornPhase]
    split
    · exact Nat.mod_lt _ (by decide)
    · exact phase

theorem hornSounds_iff (s : State) :
    hornSounds s = true ↔ s.panel.horn = .continuous ∨ (s.panel.horn = .intermittent ∧ s.panel.hornPhaseMs < 500) := by
  unfold hornSounds
  cases s.panel.horn <;> simp

/-- What a command does to the cycle of a horn it leaves INTERMITTENT (R144). -/
theorem effect_hornPhase {s t : State} {c : Instr} (h : Effect s c t) (ht : t.panel.horn = .intermittent) :
    (s.panel.horn ≠ .intermittent → t.panel.hornPhaseMs = 0) ∧ (s.panel.horn = .intermittent → t.panel.hornPhaseMs = s.panel.hornPhaseMs) := by
  have settled (u : State) (horn : SameHorn s u) (hu : (settleHorn u).panel.horn = .intermittent) :
      (s.panel.horn ≠ .intermittent → (settleHorn u).panel.hornPhaseMs = 0)
        ∧ (s.panel.horn = .intermittent → (settleHorn u).panel.hornPhaseMs = s.panel.hornPhaseMs) := by
    rw [settleHorn_phase, hu, horn.1, horn.2]
    exact ⟨fun hn => if_neg fun h => hn h.1, fun hn => if_pos ⟨hn, rfl⟩⟩
  cases effect_moment h with
  | settled u e _ horn =>
    subst e
    exact settled (settleTimers u) (by simpa [SameHorn] using horn) ht
  | unmoved kept =>
    obtain ⟨horn, phase⟩ := kept.horn
    exact ⟨fun hn => absurd (horn.symm.trans ht) hn, fun _ => phase⟩
  | reset source e => subst e; cases ht
  | refused _ e | presenceExpired _ e => subst e; exact ⟨fun hn => absurd ht hn, fun _ => rfl⟩
  | activityExpired timer _ e =>
    subst e
    exact settled _ ⟨rfl, rfl⟩ ht

/-- Settles O56: every command comes to a `Moment`, which leaves the timers armed as the state asks and the horn's cycle running or begun anew. -/
theorem timersAndHornFollowTheState : Obligations.TimersAndHornFollowTheState := by
  refine ⟨hornSounds_iff, fun s t c h ht => ?_, fun s hp hi hlt => ?_, ?_, fun s t _ hs h => ?_⟩
  · obtain ⟨began, ran⟩ := effect_hornPhase (exec_effect h) ht
    exact ⟨fun hn => ⟨began hn, (hornSounds_iff t).2 (.inr ⟨ht, by rw [began hn]; decide⟩)⟩, ran⟩
  · refine ⟨tick s, by simp [step, hp], by rw [tick_horn, hi], ?_⟩
    rw [tick_hornPhase, if_pos hi]
    split
    · next h => rw [h]
    · exact Nat.mod_eq_of_lt (by omega)
  · exact step_keeps_of_effect (fun _ _ hs => hs) (fun _ => timersInv_tick) fun _ _ _ => timersInv_effect
  · exact step_keeps_of_effect (inv := HornInv) (fun _ _ hs => hs) (fun _ => hornInv_tick) (fun _ _ _ => hornInv_effect) s t hs h

/-! ## Right after reset -/

theorem lossInv_reset : LossInv State.reset := by
  refine ⟨fun p n h => ?_, fun n h => ?_, fun _ n => ?_⟩
  · simp [State.reset, blankConfiguration, unusedPoint] at h
  · simp [State.reset] at h
  · simp [State.reset]

theorem reportChainInv_reset : ReportChainInv State.reset :=
  ⟨chainFits_of_blank rfl _ _, pointAttemptFits_of_none rfl,
    fun p h => Bool.noConfusion (h.symm.trans (isOwn_blank p)), fun _ => rfl, ownKnownInv_of_blank rfl⟩

theorem timersInv_reset : TimersInv State.reset := by
  obtain ⟨h0, h1, h2, h3⟩ := armed_of_stopped (s := State.reset) rfl rfl
  rw [TimersInv, h0, h1, h2, h3]
  exact ⟨by simp [armedAs, State.reset], by simp [armedAs, State.reset], by simp [armedAs, State.reset], by simp [armedAs, State.reset],
    by simp [State.reset]⟩

/-- Settles O57, block by block: no configuration is held, the station is OFF, and every queue, count and timer is at its reset value. -/
theorem invariantsHoldAtReset : Obligations.InvariantsHoldAtReset :=
  ⟨oneFlag_blankConfiguration _, ownKnownInv_of_blank rfl, fun off => absurd rfl off, lossInv_reset,
    reportInv_of_ne (by simp [State.reset]) (by simp [State.reset]), operatorInv_of_empty rfl, reportChainInv_reset,
    failureInv_of_zero rfl rfl, attemptInv_of_released rfl rfl,
    by simp [SequencerInv, State.reset], timersInv_reset,
    ⟨by simp [hornPattern, State.reset, panelRuns], by simp [State.reset]⟩, by simp [ResetInv, State.reset]⟩

end Sys2Proof.Machine
end

section
/-! PROOFS. The alarm sequence keeps records lawful (R2), and two stations take one frame alike (R24, R25, R203). -/

namespace Sys2Proof.Machine

open Sys2Proof

/-! ## Lawful records (R2) -/

theorem recordLawful_toQuiet (r : PointRecord) : RecordLawful (toQuiet r) := ⟨rfl, rfl, rfl⟩

theorem recordLawful_toRingback (r : PointRecord) : RecordLawful (toRingback r) := rfl

theorem recordLawful_of_free {r : PointRecord} (h : r.state = .alert ∨ r.state = .returned ∨ r.state = .held) : RecordLawful r := by
  unfold RecordLawful
  rcases h with h | h | h <;> rw [h] <;> trivial

theorem recordLawful_trip {r : PointRecord} (h : RecordLawful r) (flagged : Bool) (mark : Word) : RecordLawful (trip flagged mark r) := by
  unfold trip
  split
  · exact recordLawful_of_free (.inl rfl)
  · exact recordLawful_of_free (.inl rfl)
  · exact recordLawful_of_free (.inl rfl)
  all_goals exact h

theorem recordLawful_clear {r : PointRecord} (h : RecordLawful r) (lockIn ringback : Bool) : RecordLawful (clear lockIn ringback r) := by
  unfold clear
  split
  · split
    · exact recordLawful_of_free (.inr (.inl rfl))
    · exact recordLawful_toQuiet r
  · split
    · exact recordLawful_toRingback r
    · exact recordLawful_toQuiet r
  all_goals exact h

theorem recordLawful_operate {r : PointRecord} (h : RecordLawful r) (op : Operation) (horizon : Word) (ringback : Bool) :
    RecordLawful (operate op horizon ringback r) := by
  cases op with
  | ack =>
    change RecordLawful (acknowledge horizon ringback r)
    unfold acknowledge
    split
    · split
      · exact recordLawful_of_free (.inr (.inr rfl))
      · exact h
    · split
      · split
        · exact recordLawful_toRingback r
        · exact recordLawful_toQuiet r
      · exact h
    all_goals exact h
  | silence =>
    rw [operate, silence_eq]
    split
    · next hs => exact recordLawful_of_free (hs.1.imp id .inl)
    · exact h
  | reset =>
    change RecordLawful (resetPoint r)
    unfold resetPoint
    split
    · exact recordLawful_toQuiet r
    all_goals exact h

theorem lose_of_lost {r : PointRecord} (h : r.state = .lost) : lose r = r := by rw [lose, h]

theorem lose_of_known {r : PointRecord} (h : r.state ≠ .lost) :
    lose r = { state := .lost, firstOut := false, silenced := false, changeCount := r.changeCount, alertMark := 0 } := by
  unfold lose
  split
  · next hl => exact absurd hl h
  all_goals rfl

theorem recordLawful_lose {r : PointRecord} (h : RecordLawful r) : RecordLawful (lose r) := by
  by_cases hl : r.state = .lost
  · rwa [lose_of_lost hl]
  · rw [lose_of_known hl]
    exact ⟨rfl, rfl, rfl⟩

theorem recordLawful_unflag {r : PointRecord} (h : RecordLawful r) : RecordLawful (unflag r) := by
  unfold RecordLawful at h ⊢
  rw [unflag_state]
  cases hr : r.state <;> simp_all [unflag]

/-- Settles O13: `recordLawful_trip` and its companions, and the levels of `impliedLevel_trip`, `impliedLevel_clear` and `impliedLevel_operate`. -/
theorem sequenceKeepsRecordsLawful : Obligations.SequenceKeepsRecordsLawful := fun r op horizon mark flagged lockIn ringback =>
  ⟨fun h => ⟨recordLawful_trip h flagged mark, recordLawful_clear h lockIn ringback, recordLawful_operate h op horizon ringback,
      recordLawful_lose h, recordLawful_unflag h⟩,
    lose_of_known, lose_of_lost, impliedLevel_operate op horizon ringback r, rfl,
    fun h => ⟨impliedLevel_trip h flagged mark, impliedLevel_clear h lockIn ringback⟩⟩

/-! ## The tie rule rests on the group alone (R24, R25) -/

theorem pointRows_eq_map (cfg : Configuration) (records : Records) :
    pointRows cfg records = allPoints.map fun q => (q, cfg.points[q], records[q]) := by
  have indexed : ((List.finRange 256).map id).zip ((List.finRange 256).map fun q => (cfg.points[q], records[q])) = _ := List.zip_map'
  rw [List.map_id] at indexed
  rw [pointRows, toList_eq_map_finRange cfg.points, toList_eq_map_finRange records, List.zip_map']
  exact indexed

theorem rivalOf_eq_find (cfg : Configuration) (records : Records) (p : PointIndex) :
    rivalOf cfg records p = allPoints.find? fun q => rivalIn p cfg.points[p].group (q, cfg.points[q], records[q]) := by
  rw [rivalOf, pointRows_eq_map, List.find?_map]
  simp [Function.comp_def]

/-- Two tables hold the same records for the group of a point. -/
def SameGroup (cfg : Configuration) (p : PointIndex) (a b : Records) : Prop :=
  ∀ q : PointIndex, isUsed cfg q = true → cfg.points[q].group = cfg.points[p].group → a[q] = b[q]

theorem rivalOf_of_sameGroup {cfg cfg' : Configuration} (hc : cfg.points = cfg'.points) {p : PointIndex} {a b : Records}
    (h : SameGroup cfg p a b) : rivalOf cfg a p = rivalOf cfg' b p := by
  rw [rivalOf_eq_find, rivalOf_eq_find, ← hc]
  congr 1
  funext q
  simp only [rivalIn]
  by_cases hq : isUsed cfg q = true ∧ cfg.points[q].group = cfg.points[p].group
  · rw [h q hq.1 hq.2]
  · have hq : (cfg.points[q].group == cfg.points[p].group && usedPoint cfg.points[q]) = false := by
      rw [← Bool.not_eq_true, Bool.and_eq_true, beq_iff_eq]
      exact fun x => hq ⟨x.2, x.1⟩
    rw [Bool.and_assoc _ (cfg.points[q].group == _), hq, Bool.and_false, Bool.and_assoc _ (cfg.points[q].group == _), hq, Bool.and_false]

/-- Writes of one record at one point to tables that agree on its group leave them agreeing (R24, R25). -/
theorem writeRecord_of_sameGroup {cfg cfg' : Configuration} (hc : cfg.points = cfg'.points) {p : PointIndex} {a b : Records}
    (h : SameGroup cfg p a b) (r : PointRecord) :
    SameGroup cfg p (writeRecord cfg a p r) (writeRecord cfg' b p r) := by
  have set {a b : Records} (h : SameGroup cfg p a b) (x : PointIndex) (y : PointRecord) : SameGroup cfg p (a.set x y) (b.set x y) := by
    intro q hq hg
    by_cases hqx : q = x
    · subst hqx
      rw [set_get_self, set_get_self]
    · rw [set_get_other _ _ _ _ hqx, set_get_other _ _ _ _ hqx, h q hq hg]
  have written := set h p r
  have rival := rivalOf_of_sameGroup hc written
  unfold writeRecord settleTie
  rw [← rival, set_get_self, set_get_self]
  split
  · cases hq : rivalOf cfg (a.set p r) p with
    | none => exact written
    | some q =>
      obtain ⟨-, hu, hg, -⟩ := rivalOf_some hq
      have same : (a.set p r)[q] = (b.set p r)[q] := written q hu hg
      simp only [← same]
      split
      · exact set written p _
      · exact set written q _
  · exact written

/-- A write leaves the points of other groups (R24). -/
theorem writeRecord_other_group {cfg : Configuration} {p x : PointIndex} (a : Records) (r : PointRecord)
    (h : cfg.points[x].group ≠ cfg.points[p].group) : (writeRecord cfg a p r)[x] = a[x] := by
  have hxp : x ≠ p := fun e => h (e ▸ rfl)
  rcases writeRecord_cases cfg a p r with ⟨e, -⟩ | e | ⟨q, hq, e⟩ <;> rw [e]
  · exact set_get_other _ _ _ _ hxp
  · exact set_get_other _ _ _ _ hxp
  · have hxq : x ≠ q := fun e => h (by rw [e]; exact (rivalOf_some hq).2.2.1)
    rw [set_get_other _ _ _ _ hxq, set_get_other _ _ _ _ hxp]

/-! ## Records of two stations -/

/-- Tables `a'` and `b'` agree as R203 states, the groups known being those of `a` and `b`. -/
def AlikeAfter (cfg : Configuration) (a b a' b' : Records) : Prop :=
  ∀ p : PointIndex, isUsed cfg p = true → a'[p].state ≠ .lost → b'[p].state ≠ .lost →
    unflag a'[p] = unflag b'[p]
      ∧ ((∀ q : PointIndex, isUsed cfg q = true → cfg.points[q].group = cfg.points[p].group → a[q].state ≠ .lost) →
          (∀ q : PointIndex, isUsed cfg q = true → cfg.points[q].group = cfg.points[p].group → b[q].state ≠ .lost) → a'[p] = b'[p])

theorem AlikeAfter.lost {cfg : Configuration} {a b a' b' : Records} (h : AlikeAfter cfg a b a b)
    (ha : ∀ p : PointIndex, a'[p] = a[p] ∨ a'[p].state = .lost) (hb : ∀ p : PointIndex, b'[p] = b[p] ∨ b'[p].state = .lost) :
    AlikeAfter cfg a b a' b' := by
  intro p hp la lb
  rcases ha p with ea | ea
  · rcases hb p with eb | eb
    · rw [ea] at la ⊢
      rw [eb] at lb ⊢
      exact h p hp la lb
    · exact absurd eb lb
  · exact absurd ea la

theorem unflag_unflag (r : PointRecord) : unflag (unflag r) = unflag r := rfl

theorem AlikeAfter.written {cfg cfg' : Configuration} (hc : cfg.points = cfg'.points) {a b : Records} (h : AlikeAfter cfg a b a b)
    (p : PointIndex) (r : PointRecord) :
    AlikeAfter cfg a b (writeRecord cfg a p r) (writeRecord cfg' b p r) := by
  have bare (cfg : Configuration) (a : Records) (x : PointIndex) :
      unflag (writeRecord cfg a p r)[x] = if x = p then unflag r else unflag a[x] := by
    rcases writeRecord_cases cfg a p r with ⟨e, -⟩ | e | ⟨q, hq, e⟩ <;> rw [e]
    · split
      · next h => rw [h, set_get_self]
      · next h => rw [set_get_other _ _ _ _ h]
    · split
      · next h => rw [h, set_get_self, unflag_unflag]
      · next h => rw [set_get_other _ _ _ _ h]
    · have hqp := (rivalOf_some hq).1
      split
      · next h => rw [h, set_get_other _ _ _ _ hqp.symm, set_get_self]
      · next h =>
        by_cases hxq : x = q
        · rw [hxq, set_get_self, unflag_unflag]
        · rw [set_get_other _ _ _ _ hxq, set_get_other _ _ _ _ h]
  intro x hx la lb
  rw [writeRecord_state] at la lb
  refine ⟨?_, fun ka kb => ?_⟩
  · rw [bare, bare]
    split
    · rfl
    · next hxp =>
      rw [if_neg hxp] at la lb
      exact (h x hx la lb).1
  · by_cases hg : cfg.points[x].group = cfg.points[p].group
    · refine writeRecord_of_sameGroup hc (fun q hq hqg => ?_) r x hx hg
      have known := (h q hq (ka q hq (hqg.trans hg.symm)) (kb q hq (hqg.trans hg.symm))).2
      exact known (fun y hy hyg => ka y hy (hyg.trans (hqg.trans hg.symm))) fun y hy hyg => kb y hy (hyg.trans (hqg.trans hg.symm))
    · have hxp : x ≠ p := fun e => hg (e ▸ rfl)
      rw [if_neg hxp] at la lb
      rw [writeRecord_other_group a r hg, writeRecord_other_group b r (by rw [← hc]; exact hg)]
      exact (h x hx la lb).2 ka kb

/-- An operation commutes with the loss of a flag (R10 to R12, R24). -/
theorem operate_unflag (op : Operation) (horizon : Word) (ringback : Bool) (r : PointRecord) :
    operate op horizon ringback (unflag r) = unflag (operate op horizon ringback r) := by
  cases op with
  | ack =>
    by_cases hw : (horizon - r.alertMark).toNat < 32768
    · rw [operate, operate, acknowledge_within (r := unflag r) hw, acknowledge_within hw, unflag_state]
      split
      · rfl
      · split
        · split <;> rfl
        · rfl
    · rw [operate, operate, acknowledge_beyond (r := unflag r) hw, acknowledge_beyond hw]
  | silence =>
    rw [operate, operate, silence_eq, silence_eq, unflag_state]
    change (if (r.state = .alert ∨ r.state = .returned) ∧ r.silenced = false then _ else _) = _
    split <;> rfl
  | reset =>
    rw [operate, operate, resetPoint_eq, resetPoint_eq, unflag_state]
    split <;> rfl

theorem AlikeAfter.operated {cfg cfg' : Configuration} (hc : cfg.points = cfg'.points) {a b : Records} (h : AlikeAfter cfg a b a b)
    (op : Operation) (groups horizon : Word) :
    AlikeAfter cfg a b (operateGroups cfg op groups horizon a) (operateGroups cfg' op groups horizon b) := by
  have known (cfg : Configuration) (a : Records) (p : PointIndex) (hl : (operateGroups cfg op groups horizon a)[p].state ≠ .lost) :
      a[p].state ≠ .lost := by
    rw [operateGroups_get] at hl
    split at hl
    · rwa [Ne, ← impliedLevel_eq_none, impliedLevel_operate, impliedLevel_eq_none] at hl
    · exact hl
  intro p hp la lb
  obtain ⟨bare, whole⟩ := h p hp (known cfg a p la) (known cfg' b p lb)
  rw [operateGroups_get, operateGroups_get, show isUsed cfg' p = isUsed cfg p by rw [isUsed, isUsed, hc], ← hc]
  split
  · exact ⟨by rw [← operate_unflag, bare, operate_unflag], fun ka kb => by rw [whole ka kb]⟩
  · exact ⟨bare, whole⟩

/-! ## Two stations that take one frame (R203) -/

/-- `u` and `v` agree as R203 states, the groups known being those of `s` and `t`. -/
structure Alike (s t u v : State) : Prop where
  peers : Peers u v
  count : SameCount u v
  records : AlikeAfter s.cfg s.points t.points u.points v.points

theorem Alike.of_agree {s t : State} (hp : Peers s t) (h : StationsAgree s t) : Alike s t s t where
  peers := hp
  count := (h hp).1
  records := by
    have hc : s.cfg.points = t.cfg.points := hp.2.2.2.2.1
    intro p hu la lb
    obtain ⟨bare, whole⟩ := (h hp).2 p hu la lb
    refine ⟨bare, fun ka kb => whole (fun q hq hg => ka q hq hg) fun q hq hg => kb q ?_ ?_⟩
    · rwa [isUsed, hc]
    · rw [← hg, hc]

/-- What follows a frame at a SYNCED station leaves what R203 speaks of as the frame left it. -/
structure SameView (u u' : State) : Prop where
  loader : u'.loader = u.loader
  cfg : u'.cfg = u.cfg
  points : u'.points = u.points
  seq : u'.seq = u.seq
  entries : u'.members.entries = u.members.entries

theorem Alike.of_view {s t u v u' v' : State} (h : Alike s t u v) (hu : SameView u u') (hv : SameView v v') : Alike s t u' v' where
  peers := by
    have peers := h.peers
    unfold Peers at peers ⊢
    rwa [hu.seq, hu.loader, hu.cfg, hu.entries, hv.seq, hv.loader, hv.cfg, hv.entries]
  count := by
    have count := h.count
    unfold SameCount at count ⊢
    rwa [hu.seq, hv.seq]
  records := by
    rw [hu.points, hv.points]
    exact h.records

/-- Every station counts the same POINT frames (R16). -/
theorem Alike.counted {s t u v : State} (h : Alike s t u v) : Alike s t (countPoint u) (countPoint v) where
  peers := h.peers
  count := by
    intro hu hv
    have hu : u.seq.countValid = true := hu
    have hv : v.seq.countValid = true := hv
    have same := h.count hu hv
    simp [countPoint, hu, hv, same]
  records := h.records

theorem hear_cases (f : StationField) (h : Heard) (o : DigestOutcome) (d : Option Word) (s : State) :
    hear f h o d s = s
      ∨ ∃ n, stationOfField f = some n ∧ s.cfg.self ≠ some n
          ∧ hear f h o d s
            = moveEntry n
                { state := nextMember h o s.members.entries[n].state, ageMs := 0
                  lastDigest := d.or s.members.entries[n].lastDigest } s := by
  unfold hear
  split
  · exact .inl rfl
  · next n hn =>
    split
    · exact .inl rfl
    · next self => exact .inr ⟨n, hn, self, rfl⟩

/-- What one station holds of another is moved by that station's frames alone. -/
theorem hear_other_entry {s : State} {f : StationField} {n : Station} (hf : stationOfField f ≠ some n) (h : Heard) (o : DigestOutcome)
    (d : Option Word) : (hear f h o d s).members.entries[n] = s.members.entries[n] := by
  rcases hear_cases f h o d s with e | ⟨m, hm, -, e⟩ <;> rw [e]
  rw [moveEntry_entries]
  exact set_get_other _ _ _ _ fun e => hf (by rw [hm, e])

/-- A frame heard leaves each point as it was, or LOST (R79). -/
theorem hear_points (f : StationField) (h : Heard) (o : DigestOutcome) (d : Option Word) (s : State) (p : PointIndex) :
    (hear f h o d s).points[p] = s.points[p] ∨ (hear f h o d s).points[p].state = .lost := by
  rcases hear_cases f h o d s with e | ⟨m, hm, -, e⟩ <;> rw [e]
  · exact .inl rfl
  · rw [moveEntry_points]
    split
    · rw [loseOwner_get]
      split
      · exact .inr (lose_state _)
      · exact .inl rfl
    · exact .inl rfl

/-- A matching POINT or OPERATOR frame loses no point (R75). -/
theorem hear_same_points (f : StationField) (d : Option Word) (s : State) : (hear f .pointOrOperator .same d s).points = s.points := by
  rcases hear_cases f .pointOrOperator .same d s with e | ⟨n, hn, -, e⟩ <;> rw [e]
  rw [moveEntry_points, if_neg]
  rintro ⟨-, lost⟩
  have lost : isLoss (staleIfLost s.members.entries[n].state) = true := (isLoss_iff _).2 lost
  rw [staleIfLost_not_loss] at lost
  cases lost

/-- The peers of a third station hear it and remain peers. -/
theorem Peers.hear {s t : State} (h : Peers s t) {f : StationField} (hs : ownField s ≠ some f) (ht : ownField t ≠ some f) (k k' : Heard)
    (o o' : DigestOutcome) (d d' : Option Word) : Peers (Machine.hear f k o d s) (Machine.hear f k' o' d' t) := by
  obtain ⟨ss, st, digest, same, cfg, m, n, hmn, hm, hn, em, en⟩ := h
  refine ⟨by simpa using ss, by simpa using st, by simpa using digest, by simpa using same, by simpa using cfg, m, n, hmn, by simpa using hm,
    by simpa using hn, ?_, ?_⟩
  · rw [hear_other_entry fun e => other_of_ownField ht n e hn]
    exact em
  · rw [hear_other_entry fun e => other_of_ownField hs m e hm]
    exact en

theorem Alike.heard {s t u v : State} (h : Alike s t u v) (hu : u.points = s.points) (hv : v.points = t.points) {f : StationField}
    (fu : ownField u ≠ some f) (fv : ownField v ≠ some f) (k : Heard) (o : DigestOutcome) (d : Option Word) :
    Alike s t (hear f k o d u) (hear f k o d v) where
  peers := h.peers.hear fu fv k k o o d d
  count := by simpa [SameCount] using h.count
  records := by
    have whole : AlikeAfter s.cfg s.points t.points s.points t.points := by
      have records := h.records
      rwa [hu, hv] at records
    refine whole.lost (fun p => ?_) fun p => ?_
    · rw [← hu]; exact hear_points f k o d u p
    · rw [← hv]; exact hear_points f k o d v p

/-- A POINT frame of the owner, with the own digest, at a state that hears it (R16, R18). -/
theorem writePoint_alike {s t u v : State} (h : Alike s t u v) (hu : u.points = s.points) (hv : v.points = t.points)
    (hs : u.cfg = s.cfg) (f : StationField) (p : PointIndex) (w : WireRecord) (d : Word) :
    Alike s t (writePoint f p w d u) (writePoint f p w d v) := by
  obtain ⟨-, -, -, digest, cfg, -⟩ := h.peers
  have carried : digestMatches v d = digestMatches u d := by rw [digestMatches, digestMatches, digest]
  have owner : ∀ n, ownedBy v.cfg n p = ownedBy u.cfg n p := fun n => by rw [ownedBy, ownedBy, cfg]
  unfold writePoint
  cases stationOfField f with
  | none => exact h
  | some n =>
    simp only [carried, owner]
    split
    · cases recordOfWire w with
      | none => exact h
      | some r =>
        refine ⟨h.peers, h.count, ?_⟩
        have whole : AlikeAfter s.cfg s.points t.points s.points t.points := by
          have records := h.records
          rwa [hu, hv] at records
        have written := whole.written (cfg' := v.cfg) (by rw [← hs, cfg]) p r
        simpa [hu, hv, hs] using written
    · exact h

theorem Peers.digestMatches {s t : State} (h : Peers s t) (d : Word) : digestMatches t d = digestMatches s d := by
  obtain ⟨-, -, -, digest, -⟩ := h
  rw [Machine.digestMatches, Machine.digestMatches, digest]

theorem Peers.judgeDigest {s t : State} (h : Peers s t) (d : Word) : judgeDigest t d = judgeDigest s d := by
  rw [Machine.judgeDigest, Machine.judgeDigest, h.digestMatches]

@[simp] theorem digestMatches_hear (f : StationField) (k : Heard) (o : DigestOutcome) (c : Option Word) (s : State) (d : Word) :
    digestMatches (hear f k o c s) d = digestMatches s d := by simp [digestMatches]

@[simp] theorem digestMatches_countPoint (s : State) (d : Word) : digestMatches (countPoint s) d = digestMatches s d := rfl

/-- A frame of another digest writes no record (R16). -/
theorem writePoint_foreign {s : State} {d : Word} (h : digestMatches s d = false) (f : StationField) (p : PointIndex) (w : WireRecord) :
    writePoint f p w d s = s := by
  rcases writePoint_cases f p w d s with ⟨n, r, -, hd, -⟩ | e
  · rw [h] at hd
    cases hd
  · exact e

theorem takePoint_alike {s t : State} (h : Alike s t s t) {f : StationField} (hs : ownField s ≠ some f) (ht : ownField t ≠ some f)
    (p : PointIndex) (w : WireRecord) (d : Word) : Alike s t (takePoint f p w d s) (takePoint f p w d t) := by
  have heard := h.counted.heard (f := f) rfl rfl hs ht .pointOrOperator (judgeDigest s d) (some d)
  unfold takePoint
  rw [h.peers.judgeDigest]
  cases hd : digestMatches s d with
  | true =>
    rw [show judgeDigest s d = .same by simp [judgeDigest, hd]] at heard ⊢
    exact writePoint_alike heard (hear_same_points f (some d) (countPoint s)) (hear_same_points f (some d) (countPoint t)) (by simp) f p w d
  | false => rwa [writePoint_foreign (by simpa using hd), writePoint_foreign (by simpa [h.peers.digestMatches] using hd)]

theorem Alike.operated {s t u v : State} (h : Alike s t u v) (hu : u.points = s.points) (hv : v.points = t.points) (hc : u.cfg = s.cfg)
    (op : Operation) (groups horizon : Word) (c : Byte) :
    Alike s t (raise c (u.setPoints (operateGroups u.cfg op groups horizon u.points)))
      (raise c (v.setPoints (operateGroups v.cfg op groups horizon v.points))) where
  peers := h.peers
  count := h.count
  records := by
    have whole : AlikeAfter s.cfg s.points t.points s.points t.points := by
      have records := h.records
      rwa [hu, hv] at records
    have cfg : s.cfg.points = v.cfg.points := by rw [← hc]; exact h.peers.2.2.2.2.1
    simpa [hu, hv, hc] using whole.operated cfg op groups horizon

theorem takeOperator_alike {s t : State} (h : Alike s t s t) {f : StationField} (hs : ownField s ≠ some f) (ht : ownField t ≠ some f)
    (op : Operation) (groups horizon d : Word) :
    Alike s t (takeOperator f op groups horizon d s) (takeOperator f op groups horizon d t) := by
  unfold takeOperator
  rw [h.peers.digestMatches]
  split
  · have operated := (h.heard rfl rfl hs ht .pointOrOperator .same (some d)).operated (hear_same_points f (some d) s)
      (hear_same_points f (some d) t) (by simp) op groups horizon classOperatorAny
    simpa using operated
  · exact h.heard rfl rfl hs ht .pointOrOperator .differs (some d)

/-- A POINT or OPERATOR frame of a third station, malformed or not, at two that agree (R64, R203). -/
theorem takePayload_alike {s t : State} (h : Alike s t s t) {f : StationField} (hs : ownField s ≠ some f) (ht : ownField t ≠ some f)
    {cls : FrameClass} (hcls : cls = .point ∨ cls = .operator) (payload : List Byte) :
    Alike s t (takePayload cls f payload s) (takePayload cls f payload t) := by
  unfold takePayload
  cases hr : readPayload cls payload with
  | none =>
    rcases hcls with rfl | rfl
    · exact h.counted.heard rfl rfl hs ht _ _ _
    · exact h.heard rfl rfl hs ht _ _ _
  | some content =>
    have hc := classOf_readPayload hr
    cases content with
    | point p w d => exact takePoint_alike h hs ht p w d
    | operator op groups horizon d => exact takeOperator_alike h hs ht op groups horizon d
    | join _ _ | start _ _ _ _ | data _ _ _ | presence _ _ _ | query _ | reply _ _ _ =>
      rcases hcls with rfl | rfl <;> cases hc

/-! ## The end of one frame at both -/

theorem Alike.rebase {s t s' t' u v : State} (h : Alike s t u v) (hc : s'.cfg = s.cfg) (hs : s'.points = s.points) (ht : t'.points = t.points) :
    Alike s' t' u v where
  peers := h.peers
  count := h.count
  records := by
    rw [hc, hs, ht]
    exact h.records

theorem sameView_listeningFrame (s : State) : SameView s (listeningFrame (gapSeen s)) := by constructor <;> simp

theorem sameView_settleMembership {s : State} (h : s.seq.state = .synced) : SameView s (settleMembership s) := by
  have quiet : synchronise s = s := synchronise_of_ne (by rw [h]; decide)
  constructor <;> simp [quiet]

theorem sameView_sent (a : Attempt) (s : State) : SameView s (frameSent a s) := by constructor <;> simp

theorem sameView_settled (s : State) : SameView s (settle (repairTest s)) := by constructor <;> simp

/-- A peer that hears a matching POINT or OPERATOR frame of the other still holds it PRESENT (R75). -/
theorem Alike.heardOfPeer {s t u v : State} (h : Alike s t u v) {m : Station} (hm : u.cfg.self = some m) (d : Option Word) :
    Alike s t u (hear (fieldOf m) .pointOrOperator .same d v) where
  peers := by
    obtain ⟨su, sv, digest, same, cfg, m', n, hmn, hm', hn, em, en⟩ := h.peers
    rw [hm] at hm'
    cases hm'
    refine ⟨su, by simpa using sv, digest, by simpa using same, by simpa using cfg, m, n, hmn, hm, by simpa using hn, em, ?_⟩
    have other : v.cfg.self ≠ some m := by
      rw [hn]
      exact fun e => hmn (Option.some.inj e).symm
    rw [hear_entry (stationOfField_fieldOf m) _ _ _ _ other, moveEntry_entries]
    rw [set_get_self]
    rw [en]
    rfl
  count := by simpa [SameCount] using h.count
  records := by
    rw [hear_same_points]
    exact h.records

theorem sentField_of_self {s : State} {m : Station} (h : s.cfg.self = some m) : sentField s = fieldOf m := by
  simp [sentField, ownField, h]

/-- The end of the own POINT frame at one station, and its reception at the other (R17, R203). -/
theorem ownPoint_alike {s t : State} (h : Alike s t s t) {m : Station} (hm : s.cfg.self = some m) {d : Word} (hd : s.loader.digest = some d)
    (p : PointIndex) (w : WireRecord) : Alike s t (takeOwn (.point p w d) s) (takePoint (fieldOf m) p w d t) := by
  have same : judgeDigest t d = .same := by
    rw [h.peers.judgeDigest]
    simp [judgeDigest, digestMatches, hd]
  have heard := h.counted.heardOfPeer (m := m) hm (some d)
  have written := writePoint_alike heard rfl (hear_same_points (fieldOf m) (some d) (countPoint t)) rfl (fieldOf m) p w d
  rw [takePoint, same]
  refine written.of_view ?_ (by constructor <;> rfl)
  have own := takePoint_own (s := s) (f := fieldOf m) (by simp [hm]) p w d
  constructor <;> simp [takeOwn, sentField_of_self hm, own]

/-- The end of the own OPERATOR frame at one station, and its reception at the other (R19, R203). -/
theorem ownOperator_alike {s t : State} (h : Alike s t s t) {m : Station} (hm : s.cfg.self = some m) {d : Word}
    (hd : s.loader.digest = some d) (op : Operation) (groups horizon : Word) :
    Alike s t (takeOwn (.operator op groups horizon d) s) (takeOperator (fieldOf m) op groups horizon d t) := by
  have own : digestMatches s d = true := by simp [digestMatches, hd]
  have operated := (h.heardOfPeer hm (some d)).operated rfl (hear_same_points (fieldOf m) (some d) t) rfl op groups horizon classOperatorAny
  have taken := takeOperator_own (s := s) (f := fieldOf m) (by simp [hm]) op groups horizon d
  rw [takeOperator, if_pos (by rw [h.peers.digestMatches]; exact own)]
  refine operated.of_view ?_ (by constructor <;> simp)
  constructor <;> simp [takeOwn, sentField_of_self hm, taken, own]

/-- A frame of another station at a SYNCED one that hears it (R40). -/
theorem exec_received {c : Instr} {cls : FrameClass} {heading : FrameHeading} {payload : List Byte}
    (frame : deliveredFrame c = some (cls, heading, payload)) {s : State} (heard : hears heading.gap s = true)
    (other : ownField s ≠ some heading.sender) :
    exec c s = .next (settleMembership (takePayload cls heading.sender payload (listeningFrame (gapSeen s)))) := by
  rw [exec_deliveredFrame frame, frameEnds_received heard other]

theorem exec_ownFrame {s : State} {a : Attempt} (ha : s.line.attempt = some a) (hs : transmits s.seq.state = true) :
    exec .ownFrameSuccessfulEnd s = .next (settle (repairTest (takeOwn a.content (frameSent a s)))) := by
  change execOwnFrameSuccessfulEnd s = _
  simp [execOwnFrameSuccessfulEnd, liveAttempt, hs, ha]

theorem Alike.settled {s t u v : State} (h : Alike s t u v) :
    Alike s t (settleMembership u) (settleMembership v) ∧ Alike s t (settle (repairTest u)) (settleMembership v) :=
  ⟨h.of_view (sameView_settleMembership h.peers.1) (sameView_settleMembership h.peers.2.1),
    h.of_view (sameView_settled u) (sameView_settleMembership h.peers.2.1)⟩

theorem Alike.agreed {s t u v : State} (h : Alike s t u v) (hc : s.cfg.points = t.cfg.points) :
    Peers u v ∧ SameCount u v
      ∧ ∀ p : PointIndex, isUsed s.cfg p = true → u.points[p].state ≠ .lost → v.points[p].state ≠ .lost →
          unflag u.points[p] = unflag v.points[p]
            ∧ (GroupKnown s.cfg.points[p].group s → GroupKnown s.cfg.points[p].group t → u.points[p] = v.points[p]) := by
  refine ⟨h.peers, h.count, fun p hp la lb => ?_⟩
  obtain ⟨bare, whole⟩ := h.records p hp la lb
  refine ⟨bare, fun ka kb => whole ka fun q hq hg => kb q ?_ ?_⟩
  · rwa [isUsed, ← hc]
  · rw [← hc]; exact hg

/-- Two stations that agree take one frame of a third alike (R203). -/
theorem received_alike {s t u v : State} (hp : Peers s t) (agree : StationsAgree s t) {c : Instr} {cls : FrameClass} {heading : FrameHeading}
    {payload : List Byte} (frame : deliveredFrame c = some (cls, heading, payload)) (hcls : cls = .point ∨ cls = .operator)
    (hs : hears heading.gap s = true) (ht : hears heading.gap t = true) (fs : ownField s ≠ some heading.sender)
    (ft : ownField t ≠ some heading.sender) (eu : exec c s = .next u) (ev : exec c t = .next v) : Alike s t u v := by
  rw [exec_received frame hs fs] at eu
  rw [exec_received frame ht ft] at ev
  cases eu
  cases ev
  have listening : Alike s t (listeningFrame (gapSeen s)) (listeningFrame (gapSeen t)) :=
    (Alike.of_agree hp agree).of_view (sameView_listeningFrame s) (sameView_listeningFrame t)
  have base := listening.rebase (s' := listeningFrame (gapSeen s)) (t' := listeningFrame (gapSeen t)) (by simp) (by simp) (by simp)
  have taken := takePayload_alike base (f := heading.sender) (by simpa [ownField] using fs) (by simpa [ownField] using ft) hcls payload
  exact taken.settled.1.rebase (by simp) (by simp) (by simp)

/-- Two stations that agree take a frame of one of them alike (R17, R19, R203). -/
theorem sent_alike {s t u v : State} (hp : Peers s t) (agree : StationsAgree s t) {gap : Nat} (ht : hears gap t = true) {a : Attempt}
    (ha : s.line.attempt = some a) {m : Station} (hm : s.cfg.self = some m) {e : Instr}
    (frame : deliveredFrame e = some (classOf a.content, ⟨gap, fieldOf m⟩, buildPayload a.content)) (fits : contentFits a.content = true)
    (alike : ∀ s' t' : State, Alike s' t' s' t' → s'.cfg = s.cfg → s'.loader = s.loader →
      Alike s' t' (takeOwn a.content s') (takeContent (fieldOf m) a.content t'))
    (eu : exec .ownFrameSuccessfulEnd s = .next u) (ev : exec e t = .next v) : Alike s t u v := by
  have ft : ownField t ≠ some (fieldOf m) := by
    obtain ⟨-, -, -, -, -, m', n, hmn, hm', hn, -⟩ := hp
    refine ownField_ne fun h => hmn ?_
    rw [hm] at hm'
    rw [hn] at h
    exact (Option.some.inj (hm'.symm.trans h.symm))
  rw [exec_ownFrame ha (by rw [hp.1]; rfl)] at eu
  rw [exec_received frame ht ft, takePayload_of_read (readPayload_buildPayload fits)] at ev
  cases eu
  cases ev
  have sending : Alike s t (frameSent a s) (listeningFrame (gapSeen t)) :=
    (Alike.of_agree hp agree).of_view (sameView_sent a s) (sameView_listeningFrame t)
  have base := sending.rebase (s' := frameSent a s) (t' := listeningFrame (gapSeen t)) (by simp) (by simp) (by simp)
  exact (alike _ _ base (by simp) (by simp)).settled.2.rebase (by simp) (by simp) (by simp)

/-- Settles O15: the tie rule by `writeRecord_of_sameGroup`; the frames by `received_alike`, and `ownPoint_alike` and `ownOperator_alike` through
`sent_alike`. -/
theorem stationsAgreeAfterTheSameFrame : Obligations.StationsAgreeAfterTheSameFrame := by
  refine ⟨fun cfg cfg' records records' p r hc _ h => writeRecord_of_sameGroup hc h r, ?_⟩
  rintro s t u v gap c e hp agree ht cases eu ev
  have alike : Alike s t u v := by
    rcases cases with ⟨sender, payload, rfl | rfl, rfl, hs, fs, ft⟩ | ⟨a, m, p, w, d, rfl, ha, hm, hd, hc, -, -, rfl⟩
      | ⟨a, m, op, groups, horizon, d, rfl, ha, hm, hd, hc, rfl⟩
    · exact received_alike hp agree (heading := ⟨gap, sender⟩) rfl (.inl rfl) hs ht fs ft eu ev
    · exact received_alike hp agree (heading := ⟨gap, sender⟩) rfl (.inr rfl) hs ht fs ft eu ev
    · refine sent_alike hp agree ht ha hm (by rw [hc]; rfl) (by rw [hc]; rfl) (fun s' t' h cfg loader => ?_) eu ev
      rw [hc]
      exact ownPoint_alike h (by rw [cfg, hm]) (by rw [loader, hd]) p w
    · refine sent_alike hp agree ht ha hm (by rw [hc]; rfl) (by rw [hc]; rfl) (fun s' t' h cfg loader => ?_) eu ev
      rw [hc]
      exact ownOperator_alike h (by rw [cfg, hm]) (by rw [loader, hd]) op groups horizon
  exact alike.agreed hp.2.2.2.2.1

end Sys2Proof.Machine
end

section
/-! PROOFS. Start-up: the reset values, the release, the reading of the image and what the ten checks lead to (chapter 11). -/

namespace Sys2Proof.Machine

open Sys2Proof

/-! ## Bytes and their bits (R53) -/

/-- Eight bits spell the byte that has them, most significant first. -/
theorem byteBits_ofNat (b7 b6 b5 b4 b3 b2 b1 b0 : Bool) :
    byteBits (BitVec.ofNat 8 (bitsValue [b7, b6, b5, b4, b3, b2, b1, b0])) = [b7, b6, b5, b4, b3, b2, b1, b0] := by
  revert b7 b6 b5 b4 b3 b2 b1 b0
  decide

theorem byteBits_getElem (b : Byte) (j : Nat) (h : j < 8) : (byteBits b)[j]? = some (b.getLsbD (7 - j)) := by
  match j, h with
  | 0, _ | 1, _ | 2, _ | 3, _ | 4, _ | 5, _ | 6, _ | 7, _ => rfl

/-- Bits read in runs of eight give one byte for each run, with the bits of the run. -/
theorem bytesOfBits_flatMap {k : Nat} {bits : List Bool} (h : bits.length = 8 * k) :
    (bytesOfBits bits).length = k ∧ (bytesOfBits bits).flatMap byteBits = bits := by
  induction k generalizing bits with
  | zero =>
    rw [List.eq_nil_of_length_eq_zero h]
    exact ⟨rfl, rfl⟩
  | succ k ih =>
    match bits, h with
    | b7 :: b6 :: b5 :: b4 :: b3 :: b2 :: b1 :: b0 :: rest, h =>
      obtain ⟨length, spelled⟩ := ih (bits := rest) (by simp only [List.length_cons] at h; omega)
      refine ⟨by rw [bytesOfBits, List.length_cons, length], ?_⟩
      rw [bytesOfBits, List.flatMap_cons, byteBits_ofNat, spelled]
      rfl

theorem byteBits_length (b : Byte) : (byteBits b).length = 8 := rfl

/-- The bits of a run of bytes, by place (R53). -/
theorem flatMap_byteBits_getElem (bytes : List Byte) (i j : Nat) (hi : i < bytes.length) (hj : j < 8) :
    (bytes.flatMap byteBits)[8 * i + j]? = some (bytes[i].getLsbD (7 - j)) := by
  induction bytes generalizing i with
  | nil => cases hi
  | cons b rest ih =>
    rw [List.flatMap_cons]
    cases i with
    | zero =>
      rw [List.getElem?_append_left (by rw [byteBits_length]; omega)]
      simpa using byteBits_getElem b j hj
    | succ i =>
      rw [List.getElem?_append_right (by rw [byteBits_length]; omega), byteBits_length]
      have place : 8 * (i + 1) + j - 8 = 8 * i + j := by omega
      rw [place]
      simpa using ih i (by simpa using hi)

theorem bytesOfBits_replicate (k : Nat) : bytesOfBits (List.replicate (8 * k) true) = List.replicate k 0xFF := by
  induction k with
  | zero => rfl
  | succ k ih =>
    rw [show 8 * (k + 1) = 8 * k + 1 + 1 + 1 + 1 + 1 + 1 + 1 + 1 by omega]
    simp only [List.replicate_succ]
    rw [bytesOfBits, ih]
    rfl

/-! ## Hardware reset and its release (section 11.1) -/

/-- Settles O4: the two sources by their thresholds, and the reset values as `State.reset` holds them. -/
theorem hardwareResetSetsTheResetValues : Obligations.HardwareResetSetsTheResetValues := by
  intro s millivolts lowMicros
  refine ⟨?_, ?_, ?_⟩
  · change execHardwareReset (.supply millivolts) s = _
    rw [execHardwareReset]
    split
    · rfl
    · unfold supplyRisen
      split <;> rfl
  · change execHardwareReset (.pin lowMicros) s = _
    rw [execHardwareReset]
    by_cases h : 10 ≤ lowMicros
    · rw [if_pos h, if_neg (by omega)]; rfl
    · rw [if_neg h, if_pos (by omega)]
  · refine ⟨rfl, rfl, rfl, rfl, rfl, rfl, rfl, rfl, rfl, rfl, rfl, rfl, by simp [State.reset], rfl, rfl, rfl, rfl, rfl, rfl, rfl, fun b => ?_,
      rfl, rfl, rfl, rfl, rfl, rfl, rfl, rfl, rfl, fun _ _ => rfl⟩
    cases b <;> rfl

/-- The straps that the pins read, bit by bit (R190, R202). -/
theorem strapsRead_eq {pins : InputPins} {straps : Straps} (hstn : ∀ i : Fin 5, straps.stn.getLsbD i.val = (pins.stn[i] != .low))
    (hrate : ∀ i : Fin 2, straps.rate.getLsbD i.val = (pins.rate[i] != .low)) : strapsRead pins = straps := by
  have stn : (strapsRead pins).stn = straps.stn := by
    refine BitVec.eq_of_getLsbD_eq fun i hi => ?_
    rw [strapsRead_stn pins ⟨i, hi⟩, hstn ⟨i, hi⟩]
    rfl
  have rate : (strapsRead pins).rate = straps.rate := by
    refine BitVec.eq_of_getLsbD_eq fun i hi => ?_
    rw [strapsRead_rate pins ⟨i, hi⟩, hrate ⟨i, hi⟩]
    rfl
  cases straps
  cases h : strapsRead pins
  rw [h] at stn rate
  cases stn
  cases rate
  rfl

theorem strap_stn_open (i : Fin 5) : (31 : BitVec 5).getLsbD i.val = true := by
  revert i
  decide

theorem strap_rate_open (i : Fin 2) : (3 : BitVec 2).getLsbD i.val = true := by
  revert i
  decide

/-- What MDI read behind the command and the address, when every period has its reading (R191). -/
theorem clockedIn_of_length {mdi : List Bool} (h : mdi.length = 9800) : clockedIn mdi = bytesOfBits (mdi.drop 24) := by
  have length : (mdi.drop 24).length = 8 * imageLength := by simp [h, imageLength]
  rw [clockedIn, List.take_left' (l₁ := mdi.drop 24) (by exact length)]

theorem clockedIn_bits {mdi : List Bool} (h : mdi.length = 9800) :
    (clockedIn mdi).length = 1222
      ∧ ∀ i j : Nat, i < 1222 → j < 8 → mdi[24 + 8 * i + j]? = some ((imageByte (clockedIn mdi) i).getLsbD (7 - j)) := by
  rw [clockedIn_of_length h]
  have length : (mdi.drop 24).length = 8 * 1222 := by rw [List.length_drop, h]
  obtain ⟨bytes, spelled⟩ := bytesOfBits_flatMap length
  refine ⟨bytes, fun i j hi hj => ?_⟩
  have bit := flatMap_byteBits_getElem (bytesOfBits (mdi.drop 24)) i j (by omega) hj
  rw [spelled, List.getElem?_drop] at bit
  rw [show 24 + 8 * i + j = 24 + (8 * i + j) by omega, bit, imageByte, List.getD_eq_getElem _ _ (by omega)]

theorem clockedIn_nil : clockedIn [] = List.replicate 1222 0xFF := by
  have all : ([] : List Bool).drop addressPeriods ++ List.replicate (8 * imageLength) (pulledUp .undriven) = List.replicate (8 * 1222) true := rfl
  rw [clockedIn, all, List.take_of_length_le List.length_replicate.le, bytesOfBits_replicate]

/-- Settles O5: the release by `strapsRead_eq`, the reading by `clockedIn_bits` and `clockedIn_nil`. -/
theorem loadReadsStrapsAndImage : Obligations.LoadReadsStrapsAndImage := by
  intro s millivolts stoodMs stn rate straps mdi hstn hrate
  have read : strapsRead { s.pins with stn := stn, rate := rate } = straps := strapsRead_eq hstn hrate
  refine ⟨fun held => ⟨fun hs hp hv ht => ?_, fun hs hp => ?_, fun hs hp => ⟨fun hv ht => ?_, ?_⟩⟩, fun open1 open2 => ?_, fun short => ?_,
    fun reading hlen => ?_, fun reading => ?_⟩
  · change execResetRelease (.supply millivolts stoodMs) stn rate s = _
    simp [execResetRelease, releasedSource, hv, ht, held, released, letGo, hp, beginReading, read, State.setPins, State.setHold, State.setLoader]
  · change execResetRelease .pin stn rate s = _
    simp [execResetRelease, releasedSource, held, released, letGo, hs, beginReading, read, State.setPins, State.setHold, State.setLoader]
  · change execResetRelease (.supply millivolts stoodMs) stn rate s = _
    simp [execResetRelease, releasedSource, hv, ht, held, released, letGo, hp, State.setPins, State.setHold]
  · change execResetRelease .pin stn rate s = _
    simp [execResetRelease, releasedSource, held, released, letGo, hs, State.setPins, State.setHold]
  · rw [← read, open1, open2]
    refine strapsRead_eq (fun i => ?_) fun i => ?_
    · simp only [Fin.getElem_fin, Vector.getElem_replicate]
      exact strap_stn_open i
    · simp only [Fin.getElem_fin, Vector.getElem_replicate]
      exact strap_rate_open i
  · change execResetRelease (.supply millivolts stoodMs) stn rate s = _
    have not : ¬ (2800 ≤ millivolts ∧ 10 ≤ stoodMs) := by omega
    simp [execResetRelease, releasedSource, not]
  · obtain ⟨length, bits⟩ := clockedIn_bits hlen
    refine ⟨clockedIn mdi, ?_, length, bits⟩
    change execImageReadComplete mdi s = _
    simp [execImageReadComplete, reading, imageCheck, bodyLength, State.setLoader]
  · change execImageReadComplete [] s = _
    have body : min bodyLength 1222 = 1220 := rfl
    rw [execImageReadComplete, if_pos reading, clockedIn_nil, imageCheck, List.take_replicate, body]
    rfl

/-! ## The configuration (R65 to R67, R199) -/

theorem stationOfNumber_numberOf (n : Station) : stationOfNumber (numberOf n) = some n := by
  revert n
  decide

theorem configurationOf_point (img : List Byte) (straps : Straps) (p : PointIndex) :
    (configurationOf img straps).points[p] = pointConfigOf (pointEntries img)[p] := by
  simp [configurationOf]

/-- Settles O7: each entry's bytes are those of the image by `entryByte_pointEntries` and `entryByte_stationEntries`. -/
theorem configurationReadsTheImageBytes : Obligations.ConfigurationReadsTheImageBytes := by
  intro img straps n _ hstn
  have self : stationOfField straps.stn = some n := by rw [hstn, stationOfField_fieldOf]
  refine ⟨self, rfl, rfl, rfl, rfl, rfl, rfl, rfl, rfl, ?_, ?_, fun p => ⟨fun unused => ?_, fun owner used => ?_⟩⟩
  · simp only [configurationOf, self, controlSetOf]
    rw [entryByte_stationEntries img n (by decide), entryByte_stationEntries img n (by decide)]
  · simp only [configurationOf, self, Option.map_some, displayOf]
    rw [entryByte_stationEntries img n (by decide), entryByte_stationEntries img n (by decide), entryByte_stationEntries img n (by decide),
      entryByte_stationEntries img n (by decide)]
  · rw [configurationOf_point, pointConfigOf, ownerByte_pointEntries, unused]
    rfl
  · rw [configurationOf_point, pointConfigOf, ownerByte_pointEntries, used, stationOfNumber_numberOf]
    simp only [lineField]
    rw [entryByte_pointEntries img p (by decide), entryByte_pointEntries img p (by decide), entryByte_pointEntries img p (by decide)]

/-! ## What the checks lead to (R197, R198) -/

/-- Settles O9: refusal, given in full by `refuseImage`. -/
theorem badImageHaltsTheStation : Obligations.BadImageHaltsTheStation := by
  intro s k checking off failed
  refine ⟨refuseImage s, ?_, rfl, rfl, rfl⟩
  change execLoadChecksComplete s = _
  simp [execLoadChecksComplete, checking, off, failed]

/-- The level a pin is read as under a polarity (R116, R201). -/
theorem levelOf_contactRead (abnormalWhenClosed : Bool) (pin : PinLevel) :
    levelOf abnormalWhenClosed (contactRead pin) = if (pin = .low ↔ abnormalWhenClosed = true) then .abnormal else .normal := by
  cases pin <;> cases abnormalWhenClosed <;> decide

/-- The first sample of a scanned line (R118, R128). -/
theorem firstSample_debouncer {cfg : Configuration} {l : InputLine} {p : PointIndex} (h : pointOfLine cfg l = some p) (pins : InputPins) :
    (firstSample cfg pins l).debouncer
      = if (pins.field[l] = .low ↔ cfg.points[p].abnormalWhenClosed = true) then
          (if cfg.points[p].debounceMs = 0 then { raw := .abnormal, stable := .abnormal, settling := none }
           else { raw := .abnormal, stable := .normal, settling := some cfg.points[p].debounceMs })
        else { raw := .normal, stable := .normal, settling := none } := by
  rw [firstSample]
  simp only [h, levelOf_contactRead]
  split
  · rfl
  · rfl

theorem firstButtonSample_eq (pins : InputPins) (b : Button) :
    firstButtonSample pins b
      = if buttonPin pins b = .low then { raw := .pressed, stable := .released, settling := some 20 } else restingButton := by
  unfold firstButtonSample
  cases buttonPin pins b <;> rfl

/-- A line's first sample settles at once away from normal with a debounce time of 0 alone (R118, R128). -/
theorem firstSampleChanges_iff (cfg : Configuration) (pins : InputPins) :
    firstSampleChanges cfg pins = true ↔ ∃ (l : InputLine) (p : PointIndex), pointOfLine cfg l = some p ∧ cfg.points[p].debounceMs = 0
      ∧ (pins.field[l] = .low ↔ cfg.points[p].abnormalWhenClosed = true) := by
  simp only [firstSampleChanges, allLines, List.any_eq_true, List.mem_finRange, true_and, bne_iff_ne]
  refine exists_congr fun l => ?_
  cases h : pointOfLine cfg l with
  | none => simp [firstSample, h, restingLine]
  | some p =>
    rw [firstSample_debouncer h]
    split
    · next hl =>
      split
      · next h0 => simp [-Fin.getElem_fin, hl, h0]
      · next h0 => simp [-Fin.getElem_fin, h0]
    · next hl => simp [-Fin.getElem_fin, hl]

theorem controlCount_eq_zero {cfg : Configuration} {records : Records} {test : PointRecord → Bool}
    (h : ∀ p : PointIndex, test records[p] = false) : controlCount cfg records test = 0 := by
  by_contra hne
  obtain ⟨p, -, hp⟩ := (controlCount_pos cfg records test).1 (Nat.pos_of_ne_zero hne)
  rw [h p] at hp
  cases hp

/-- With every record QUIET or LOST nothing asks for the horn or waits to be acknowledged (R28, R143). -/
theorem summary_of_silent {cfg : Configuration} {records : Records} (h : ∀ p : PointIndex, records[p].state = .quiet ∨ records[p].state = .lost) :
    unacknowledgedCount cfg records = 0 ∧ unsilencedCount cfg records = 0 ∧ ringbackCount cfg records = 0 := by
  refine ⟨controlCount_eq_zero fun p => ?_, controlCount_eq_zero fun p => ?_, controlCount_eq_zero fun p => ?_⟩ <;>
    rcases h p with e | e <;> rw [e] <;> rfl

theorem acceptImage_silent (cfg : Configuration) (s : State) (p : PointIndex) :
    (acceptImage cfg s).points[p].state = .quiet ∨ (acceptImage cfg s).points[p].state = .lost := by
  rw [acceptImage_points_get]
  split
  · exact .inr rfl
  · exact .inl rfl

/-- The timers as acceptance leaves them: T1 alone is armed in LISTENING with no point to acknowledge (R157, R162). -/
theorem acceptImage_timers (cfg : Configuration) (s : State) :
    (acceptImage cfg s).timers.t0 = .idle ∧ (acceptImage cfg s).timers.t2 = .idle ∧ (acceptImage cfg s).timers.t3 = .idle
      ∧ (s.timers.t1 = .idle → (acceptImage cfg s).timers.t1 = if cfg.t1ReloadMs = 0 then .idle else .counting cfg.t1ReloadMs)
      ∧ (acceptImage cfg s).timers.presencePending = s.timers.presencePending := by
  obtain ⟨unacknowledged, unsilenced, ringback⟩ := summary_of_silent (cfg := cfg) (acceptImage_silent cfg s)
  obtain ⟨a0, -, a2, a3⟩ : armedAs (t0Armed (acceptImage cfg s)) (acceptImage cfg s).timers.t0
      ∧ armedAs (t1Armed (acceptImage cfg s)) (acceptImage cfg s).timers.t1
      ∧ armedAs (t2Armed (acceptImage cfg s)) (acceptImage cfg s).timers.t2
      ∧ armedAs (t3Armed (acceptImage cfg s)) (acceptImage cfg s).timers.t3 := armedAs_settle _
  refine ⟨a0.2 (by simp [t0Armed, transmits]), a2.2 (by simp [t2Armed, unacknowledged]),
    a3.2 (by simp [t3Armed, hornDemand, unsilenced, ringback]), fun idle => ?_, by simp [acceptImage, settleTimers]⟩
  have armed : t1Armed (acceptImage cfg s) = (cfg.t1ReloadMs != 0) := by simp [t1Armed, panelRuns]
  have moment : (acceptImage cfg s).timers.t1 = timerMoment (t1Armed (acceptImage cfg s)) (actsOn (acceptImage cfg s).raised cfg.t1Mask)
      cfg.t1ReloadMs s.timers.t1 := by simp [acceptImage, settleTimers]
  rw [moment, armed, idle]
  by_cases h : cfg.t1ReloadMs = 0 <;> simp [timerMoment, h]

theorem acceptImage_horn (cfg : Configuration) (s : State) : (acceptImage cfg s).panel.horn = .silent := by
  obtain ⟨-, unsilenced, ringback⟩ := summary_of_silent (cfg := cfg) (acceptImage_silent cfg s)
  have horn : (acceptImage cfg s).panel.horn = hornPattern (acceptImage cfg s) := settle_horn _
  rw [horn, hornPattern]
  simp [demandedPattern, unsilenced, ringback]

theorem acceptImage_panel (cfg : Configuration) (s : State) :
    (∀ b : Button, debouncerOf (acceptImage cfg s).panel b = firstButtonSample s.pins b)
      ∧ (acceptImage cfg s).panel.queue = s.panel.queue ∧ (acceptImage cfg s).panel.pressDrops = s.panel.pressDrops := by
  unfold acceptImage
  rw [settle_panel]
  refine ⟨fun b => ?_, by simp, by simp⟩
  cases b <;> simp [debouncerOf]

theorem acceptImage_scanner (cfg : Configuration) (s : State) :
    (acceptImage cfg s).scanner = { lines := tabulate (firstSample cfg s.pins), queue := [] } := by simp [acceptImage]

theorem acceptImage_line (cfg : Configuration) (s : State) (l : InputLine) :
    (acceptImage cfg s).scanner.lines[l] = firstSample cfg s.pins l := by
  simp [acceptImage_scanner]

theorem firstSample_reported (cfg : Configuration) (pins : InputPins) (l : InputLine) : (firstSample cfg pins l).reported = .normal := by
  unfold firstSample
  split <;> rfl

theorem acceptImage_raised (cfg : Configuration) (s : State) :
    (acceptImage cfg s).raised = if firstSampleChanges cfg s.pins then classInput else 0 := by
  simp [acceptImage, raise, awaitGap, newMoment, enterListening, State.setLine, State.setRaised, State.setPoints, State.setSeq]

/-- Settles O8: acceptance, block by block. -/
theorem goodImageStartsTheStation : Obligations.GoodImageStartsTheStation := by
  intro s checking off passed
  refine ⟨acceptImage (configurationOf s.loader.image s.loader.straps) s, ?_, ?_⟩
  · change execLoadChecksComplete s = _
    simp [execLoadChecksComplete, checking, off, passed]
  generalize configurationOf s.loader.image s.loader.straps = cfg
  obtain ⟨t0, t2, t3, t1, pending⟩ := acceptImage_timers cfg s
  obtain ⟨buttons, queue, drops⟩ := acceptImage_panel cfg s
  have members : (acceptImage cfg s).members = clearedMembers s.members := by simp [acceptImage]
  simp only [acceptImage_keeps, acceptImage_loader, acceptImage_seq, members, t0, t2, t3, pending, queue, drops, acceptImage_horn, true_and, and_true]
  refine ⟨rfl, fun p => acceptImage_points_get cfg s p, fun n => by simp [clearedMembers], rfl, rfl, by rw [acceptImage_scanner],
    fun l => by rw [acceptImage_line, firstSample_reported], fun l h => by rw [acceptImage_line, firstSample]; simp only [h],
    fun l p h => by rw [acceptImage_line, firstSample_debouncer h], ?_, fun b => by rw [buttons b, firstButtonSample_eq],
    t1⟩
  rw [acceptImage_raised, ← firstSampleChanges_iff]
  cases firstSampleChanges cfg s.pins <;> simp [classInput]

end Sys2Proof.Machine
end

section
/-! PROOFS. What passes on an empty queue, and which expiries it queues. -/

namespace Sys2Proof.Machine

open Sys2Proof

/-! ## When a timer falls due -/

theorem dueTimer_iff (t : Option Nat) : dueTimer t = true ↔ countDown t = some 0 := by
  cases t <;> simp [dueTimer, countDown, Nat.sub_eq_zero_iff_le]

theorem dueCount_iff (t : TimerState) : dueCount t = true ↔ countDownTimer t = .counting 0 := by
  cases t <;> simp [dueCount, countDownTimer, Nat.sub_eq_zero_iff_le]

theorem dueTest_iff (t : LampTest) : dueTest t = true ↔ countDownTest t = .active 0 := by
  cases t <;> simp [dueTest, countDownTest, Nat.sub_eq_zero_iff_le]

theorem countDownTimer_moves (t : TimerState) :
    (∀ ms, t = .counting ms → countDownTimer t = .counting (ms - 1)) ∧ ((∀ ms, t ≠ .counting ms) → countDownTimer t = t) := by
  cases t with
  | idle => exact ⟨nofun, fun _ => rfl⟩
  | expired => exact ⟨nofun, fun _ => rfl⟩
  | counting ms => exact ⟨fun _ e => by cases e; rfl, fun h => absurd rfl (h ms)⟩

theorem countDownTest_moves (t : LampTest) :
    (∀ ms, t = .active ms → countDownTest t = .active (ms - 1)) ∧ ((∀ ms, t ≠ .active ms) → countDownTest t = t) := by
  cases t with
  | idle => exact ⟨nofun, fun _ => rfl⟩
  | timedOut => exact ⟨nofun, fun _ => rfl⟩
  | active ms => exact ⟨fun _ e => by cases e; rfl, fun h => absurd rfl (h ms)⟩

/-! ## What a millisecond moves -/

theorem tick_entry (s : State) (n : Station) :
    (tick s).members.entries[n]
      = if receives s.seq.state = true ∧ s.members.entries[n].state ≠ .absent then
          { s.members.entries[n] with ageMs := min (s.members.entries[n].ageMs + 1) (4 * s.cfg.presenceMs) }
        else s.members.entries[n] := by
  change (if receives s.seq.state = true then tabulate fun n => olderEntry s.cfg s.members.entries[n] else s.members.entries)[n] = _
  have older : (tabulate fun n => olderEntry s.cfg s.members.entries[n])[n] = olderEntry s.cfg s.members.entries[n] := by
    simp only [Fin.getElem_fin, tabulate_get]
  by_cases heard : receives s.seq.state = true
  · by_cases absent : s.members.entries[n].state = .absent
    · rw [if_pos heard, older, olderEntry, if_pos absent, if_neg fun both => both.2 absent]
    · rw [if_pos heard, older, olderEntry, if_neg absent, if_pos ⟨heard, absent⟩, absentMs]
  · rw [if_neg heard, if_neg fun both => heard both.1]

theorem tick_debouncer (s : State) (l : InputLine) :
    (tick s).scanner.lines[l].reported = s.scanner.lines[l].reported
      ∧ (tick s).scanner.lines[l].debouncer.raw = s.scanner.lines[l].debouncer.raw
      ∧ (tick s).scanner.lines[l].debouncer.stable = s.scanner.lines[l].debouncer.stable
      ∧ (tick s).scanner.lines[l].debouncer.settling
          = if panelRuns s.seq.state then countDown s.scanner.lines[l].debouncer.settling
            else s.scanner.lines[l].debouncer.settling := by
  rw [tick_scanner, scannerOver]
  split
  · simp [settlingDown]
  · exact ⟨rfl, rfl, rfl, rfl⟩

theorem tick_button (s : State) (b : Button) :
    (debouncerOf (tick s).panel b).raw = (debouncerOf s.panel b).raw
      ∧ (debouncerOf (tick s).panel b).stable = (debouncerOf s.panel b).stable
      ∧ (debouncerOf (tick s).panel b).settling
          = if panelRuns s.seq.state then countDown (debouncerOf s.panel b).settling else (debouncerOf s.panel b).settling := by
  change (debouncerOf (panelOver s) b).raw = _ ∧ (debouncerOf (panelOver s) b).stable = _ ∧ (debouncerOf (panelOver s) b).settling = _
  unfold panelOver
  split <;> cases b <;> exact ⟨rfl, rfl, rfl⟩

theorem tick_queue (s : State) : (tick s).panel.queue = s.panel.queue ∧ (tick s).panel.pressDrops = s.panel.pressDrops := by
  change (panelOver s).queue = _ ∧ (panelOver s).pressDrops = _
  unfold panelOver
  split <;> exact ⟨rfl, rfl⟩

/-! ## The expiries queued -/

theorem mem_if_singleton {α : Type} (c d : α) (b : Bool) : (c ∈ if b = true then [d] else []) ↔ c = d ∧ b = true := by
  cases b <;> simp

theorem mem_filter_map {α β : Type} (f : α → β) (test : α → Bool) (xs : List α) (c : β) :
    c ∈ (xs.filter test).map f ↔ ∃ x ∈ xs, c = f x ∧ test x = true := by
  simp only [List.mem_map, List.mem_filter]
  exact ⟨fun ⟨x, ⟨hx, ht⟩, e⟩ => ⟨x, hx, e.symm, ht⟩, fun ⟨x, hx, e, ht⟩ => ⟨x, ⟨hx, ht⟩, e.symm⟩⟩

theorem mem_buttons (b : Button) : b ∈ [Button.ack, .silence, .reset, .test] := by
  cases b <;> decide

theorem mem_dueCommands (s : State) (c : Instr) :
    c ∈ dueCommands s ↔
      (c = .activityTimerExpiry .t1 ∧ dueCount s.timers.t1) ∨ (c = .activityTimerExpiry .t2 ∧ dueCount s.timers.t2)
        ∨ (c = .activityTimerExpiry .t3 ∧ dueCount s.timers.t3) ∨ (c = .lampTestTimeout ∧ dueTest s.lamp.test)
        ∨ (c = .t0PresenceExpiry ∧ dueCount s.timers.t0)
        ∨ (∃ l, c = .inputSettlingExpiry l ∧ panelRuns s.seq.state ∧ dueLine s l)
        ∨ (∃ b, c = .buttonSettlingExpiry b ∧ panelRuns s.seq.state ∧ dueTimer (debouncerOf s.panel b).settling)
        ∨ (∃ n, c = .absentTimeout n ∧ receives s.seq.state ∧ dueAbsent s n)
        ∨ (c = .repairTimerExpiry ∧ dueTimer s.members.repairTimer) ∨ (c = .syncTimerExpiry ∧ dueTimer s.seq.syncTimer)
        ∨ (c = .listenTimerExpiry ∧ dueTimer s.seq.listenTimer) ∨ (c = .holdOffExpiry ∧ dueTimer s.line.holdOff)
        ∨ (c = .loadChecksComplete ∧ s.loader.state = .checking) := by
  have panel : (c ∈ if panelRuns s.seq.state then (allLines.filter (dueLine s)).map Instr.inputSettlingExpiry
        ++ ([Button.ack, .silence, .reset, .test].filter fun b => dueTimer (debouncerOf s.panel b).settling).map Instr.buttonSettlingExpiry
      else []) ↔ (∃ l, c = .inputSettlingExpiry l ∧ panelRuns s.seq.state ∧ dueLine s l)
          ∨ ∃ b, c = .buttonSettlingExpiry b ∧ panelRuns s.seq.state ∧ dueTimer (debouncerOf s.panel b).settling := by
    cases panelRuns s.seq.state
    · simp
    · simp only [if_true, List.mem_append, mem_filter_map, allLines, List.mem_finRange, true_and, mem_buttons]
  have absent : (c ∈ if receives s.seq.state then (allStations.filter (dueAbsent s)).map Instr.absentTimeout else [])
      ↔ ∃ n, c = .absentTimeout n ∧ receives s.seq.state ∧ dueAbsent s n := by
    cases receives s.seq.state
    · simp
    · simp only [if_true, mem_filter_map, allStations, List.mem_finRange, true_and]
  have checks : (c ∈ if s.loader.state = .checking then [Instr.loadChecksComplete] else [])
      ↔ c = .loadChecksComplete ∧ s.loader.state = .checking := by
    by_cases h : s.loader.state = .checking <;> simp [h]
  have activity : c ∈ ([ActivityTimer.t1, .t2, .t3].filter fun t => dueCount (timerOf s.timers t)).map Instr.activityTimerExpiry
      ↔ (c = .activityTimerExpiry .t1 ∧ dueCount s.timers.t1) ∨ (c = .activityTimerExpiry .t2 ∧ dueCount s.timers.t2)
        ∨ (c = .activityTimerExpiry .t3 ∧ dueCount s.timers.t3) := by
    simp [mem_filter_map, timerOf]
  simp only [dueCommands, List.mem_append, activity, panel, absent, checks, mem_if_singleton, or_assoc]

theorem singleton_if_sublist {α : Type} (c : Prop) [Decidable c] (d : α) : (if c then [d] else []).Sublist [d] := by
  split
  · exact .refl _
  · exact List.nil_sublist _

/-- No expiry is queued twice, and the order is that of assumption 6: part by part. -/
theorem dueCommands_sublist (s : State) : (dueCommands s).Sublist expiryOrder := by
  have order : expiryOrder
      = [ActivityTimer.t1, .t2, .t3].map Instr.activityTimerExpiry ++ [.lampTestTimeout] ++ [.t0PresenceExpiry]
        ++ (allLines.map Instr.inputSettlingExpiry ++ [Button.ack, .silence, .reset, .test].map Instr.buttonSettlingExpiry)
        ++ allStations.map Instr.absentTimeout ++ [.repairTimerExpiry] ++ [.syncTimerExpiry] ++ [.listenTimerExpiry]
        ++ [.holdOffExpiry] ++ [.loadChecksComplete] := by
    simp [expiryOrder, allLines, allStations]
  have panel : (if panelRuns s.seq.state then (allLines.filter (dueLine s)).map Instr.inputSettlingExpiry
        ++ ([Button.ack, .silence, .reset, .test].filter fun b => dueTimer (debouncerOf s.panel b).settling).map Instr.buttonSettlingExpiry
      else []).Sublist
      (allLines.map Instr.inputSettlingExpiry ++ [Button.ack, .silence, .reset, .test].map Instr.buttonSettlingExpiry) := by
    split
    · exact (List.filter_sublist.map _).append (List.filter_sublist.map _)
    · exact List.nil_sublist _
  have absent : (if receives s.seq.state then (allStations.filter (dueAbsent s)).map Instr.absentTimeout else []).Sublist
      (allStations.map Instr.absentTimeout) := by
    split
    · exact List.filter_sublist.map _
    · exact List.nil_sublist _
  rw [order]
  exact ((((((((((List.filter_sublist.map _).append (singleton_if_sublist _ _)).append (singleton_if_sublist _ _)).append panel).append
    absent).append (singleton_if_sublist _ _)).append (singleton_if_sublist _ _)).append (singleton_if_sublist _ _)).append
    (singleton_if_sublist _ _)).append (singleton_if_sublist _ _))

/-- Settles O2: the step is `tick`, read block by block, and the queue is `dueCommands`. -/
theorem idleStepPassesOneMillisecond : Obligations.IdleStepPassesOneMillisecond := by
  intro s idle
  refine ⟨tick s, by simp [step, idle], rfl, rfl, (countDownTest_moves _).1, (countDownTest_moves _).2, rfl, rfl, tick_entry s, rfl, rfl, rfl,
    ?_, rfl, tick_debouncer s, tick_button s, tick_horn s, tick_hornPhase s, scannerOver_queue s, (tick_queue s).1, (tick_queue s).2, rfl,
    rfl, rfl, rfl, rfl, rfl, rfl, rfl, fun c => ?_, dueCommands_sublist s⟩
  · rintro before after (e | e | e | e) <;> cases e <;> exact countDownTimer_moves _
  · have line (l : InputLine) : (panelRuns s.seq.state = true ∧ (tick s).scanner.lines[l].debouncer.settling = some 0)
        ↔ (panelRuns s.seq.state = true ∧ dueLine s l = true) := by
      refine and_congr_right fun runs => ?_
      rw [(tick_debouncer s l).2.2.2, if_pos runs, dueLine, dueTimer_iff]
    have button (b : Button) : (panelRuns s.seq.state = true ∧ (debouncerOf (tick s).panel b).settling = some 0)
        ↔ (panelRuns s.seq.state = true ∧ dueTimer (debouncerOf s.panel b).settling = true) := by
      refine and_congr_right fun runs => ?_
      rw [(tick_button s b).2.2, if_pos runs, dueTimer_iff]
    have absent (n : Station) : (receives s.seq.state = true ∧ s.cfg.self ≠ some n ∧ s.members.entries[n].state ≠ .absent
          ∧ 4 * s.cfg.presenceMs ≤ (tick s).members.entries[n].ageMs) ↔ (receives s.seq.state = true ∧ dueAbsent s n = true) := by
      refine and_congr_right fun heard => ?_
      simp only [dueAbsent, Bool.and_eq_true, bne_iff_ne, decide_eq_true_eq, and_assoc]
      refine and_congr_right fun _ => and_congr_right fun known => ?_
      rw [tick_entry, if_pos ⟨heard, known⟩]
      change _ ≤ min _ _ ↔ 4 * s.cfg.presenceMs ≤ _
      simp only [le_min_iff, le_refl, and_true]
    change c ∈ dueCommands s ↔ _
    simp only [mem_dueCommands, line, button, absent, dueCount_iff, dueTest_iff, dueTimer_iff]
    rfl

end Sys2Proof.Machine
end

section
/-! PROOFS. The repair test, and the station's own attempts: their starts and their ends (R37 to R46, R50, R51, R84). -/

namespace Sys2Proof.Machine

open Sys2Proof

/-! ## The repair test (R84) -/

theorem anyStale_congr {s t : State} (hc : t.cfg = s.cfg) (he : t.members.entries = s.members.entries) : anyStale t = anyStale s := by
  unfold anyStale isStale
  rw [hc, he]

theorem repairTest_members_eq (s : State) :
    (repairTest s).members = { s.members with repairFlag := (repairTest s).members.repairFlag } := by
  obtain ⟨flag, h⟩ := repairTest_members s
  rw [h]

/-- The repair test is a write of the membership table alone. -/
theorem repairTest_eq (s : State) : repairTest s = s.setMembers (repairTest s).members := by
  unfold repairTest
  split
  · rfl
  · split <;> rfl

/-- The flag that the repair test leaves (R84). -/
theorem repairTest_flag (s : State) :
    (repairTest s).members.repairFlag
      = if s.members.repairFlag then anyStale s || repairOnLine s
        else s.seq.state == .synced && anyStale s && s.members.repairTimer.isNone := by
  unfold repairTest
  cases hflag : s.members.repairFlag <;> cases anyStale s <;> cases repairOnLine s <;> cases s.seq.state == .synced <;>
    cases s.members.repairTimer.isNone <;> simp [hflag]

theorem repairOnLine_of_none {s : State} (h : s.line.attempt = none) : repairOnLine s = false := by rw [repairOnLine, h]

/-- The repair test behind a change that left its flag and timer as they were, with no attempt of the query on the line. -/
theorem repairTested_of_line {s u : State} (free : repairOnLine u = false) (flag : u.members.repairFlag = s.members.repairFlag)
    (timer : u.members.repairTimer = s.members.repairTimer) : RepairTested s (repairTest u) := by
  have stale : anyStale (repairTest u) = anyStale u := anyStale_congr (by simp) (by simp)
  refine ⟨by rw [repairTest_members_eq]; exact timer, ?_⟩
  rw [repairTest_flag, free, flag, timer, stale]
  cases s.members.repairFlag <;> cases anyStale u <;> simp

theorem repairTested_repairTest {s u : State} (ended : u.line.attempt = none) (flag : u.members.repairFlag = s.members.repairFlag)
    (timer : u.members.repairTimer = s.members.repairTimer) : RepairTested s (repairTest u) :=
  repairTested_of_line (repairOnLine_of_none ended) flag timer

theorem RepairTested.settle {s u : State} (h : RepairTested s u) : RepairTested s (settle u) := by
  have stale : anyStale (Machine.settle u) = anyStale u := anyStale_congr (by simp) (by simp)
  obtain ⟨timer, flag⟩ := h
  exact ⟨by simpa using timer, by simpa [stale] using flag⟩

/-! ## What the settling of a moment leaves alone -/

theorem keepsPanel_settle {s u : State} (h : u.panel = s.panel) : KeepsPanel s (settle u) := by
  rw [KeepsPanel, settle_panel, h]
  exact ⟨rfl, rfl, rfl, rfl, rfl, rfl⟩

/-- The members behind a moment that moved none of them but the repair query flag. -/
theorem settle_repairTest_members {s u : State} (h : u.members = s.members) :
    (settle (repairTest u)).members = { s.members with repairFlag := (settle (repairTest u)).members.repairFlag } := by
  simp only [settle_keeps, ← h]
  exact repairTest_members_eq u

/-- T0 counts from P again behind a moment that raised TRANSMIT, at a station that transmits (R155). -/
theorem settle_t0_of_transmit {s : State} (hs : transmits s.seq.state = true) (raised : actsOn s.raised classTransmit = true) :
    (settle s).timers.t0 = .counting s.cfg.presenceMs := by
  rw [settle_timers]
  change timerMoment (t0Armed s) (actsOn s.raised classTransmit) s.cfg.presenceMs s.timers.t0 = _
  rw [t0Armed, hs, raised]
  cases s.timers.t0 <;> rfl

/-! ## The successful end of an own frame (R41, R51) -/

theorem frameSent_raised (a : Attempt) (s : State) :
    (frameSent a s).raised = if classOf a.content = .operator then classTransmit ||| classOperatorOwn else classTransmit := by
  simp [frameSent, raise, attemptOver, newMoment, releaseLine, State.setLine, State.setRaised]

theorem ownFrameEnd {s u : State} {a : Attempt} (attempt : s.line.attempt = some a) (sends : transmits s.seq.state = true)
    (taken : takeOwn a.content (frameSent a s) = u) : exec .ownFrameSuccessfulEnd s = .next (settle (repairTest u)) := by
  rw [exec_ownFrame attempt sends, taken]

/-- The membership table behind the end of a frame that moved no entry. -/
theorem settle_repairTested {s u : State} (free : u.line.attempt = none) (h : u.members = s.members) :
    (settle (repairTest u)).members = { s.members with repairFlag := (settle (repairTest u)).members.repairFlag }
      ∧ RepairTested s (settle (repairTest u)) :=
  ⟨settle_repairTest_members h, (repairTested_repairTest free (by rw [h]) (by rw [h])).settle⟩

/-- T0 counts from P again behind an own frame that is not an OPERATOR frame and moves no line state (R155). -/
theorem ownFrame_t0 {s u : State} {a : Attempt} (sends : transmits s.seq.state = true) (other : classOf a.content ≠ .operator)
    (seq : u.seq = s.seq) (cfg : u.cfg = s.cfg) (raised : u.raised = (frameSent a s).raised) :
    (settle (repairTest u)).timers.t0 = .counting s.cfg.presenceMs := by
  rw [settle_t0_of_transmit (by simpa [seq] using sends)]
  · simp [cfg]
  · simp [raised, frameSent_raised, other, actsOn, classTransmit]

/-! ### POINT and OPERATOR -/

/-- The own POINT frame of a point of the sender, at its own consumers (R17, R51, R124). -/
theorem takeOwn_point {s : State} {n : Station} {p : PointIndex} {w : WireRecord} {r : PointRecord} {d : Word} (self : s.cfg.self = some n)
    (digest : s.loader.digest = some d) (owner : s.cfg.points[p].owner = some n) (wire : recordOfWire w = some r) :
    takeOwn (.point p w d) s
      = reconcile
          ((raise (alertClasses s.cfg p s.points[p].state r.state) ((countPoint s).setPoints (writeRecord s.cfg s.points p r))).setScanner
            { s.scanner with queue := s.scanner.queue.tail }) := by
  have sent : stationOfField (sentField s) = some n := by rw [stationOfField_sentField, self]
  have owned : ownedBy s.cfg n p = true := (ownedBy_iff s.cfg n p).2 owner
  rw [takeOwn, takePoint_own (stationOfField_sentField s), writePoint]
  simp only [sent, countPoint_keeps, digestMatches, digest, owned, wire, beq_self_eq_true, Bool.and_self, if_true]

/-- Settles O21: `takeOwn_point` at the end of the frame. -/
theorem ownPointFrameWritesAndLeavesTheQueue : Obligations.OwnPointFrameWritesAndLeavesTheQueue := by
  intro s src n p w r d synced attempt self digest owner wire
  refine ⟨_, ownFrameEnd attempt (by rw [synced]; rfl)
    (takeOwn_point (by simpa using self) (by simpa using digest) (by simpa using owner) wire), ?_⟩
  refine ⟨by simp, by simp [countPoint], ?_, ?_, by simp [countPoint], (settle_repairTested (by simp) (by simp)).1,
    (settle_repairTested (by simp) (by simp)).2, by simp [countPoint], by simp, by simp,
    keepsPanel_settle (by simp), by simp [KeepsSetup]⟩
  · simp [reconcile, countPoint, synced, reportCapacity]
  · simp [raise, frameSent_raised, classOf]

/-- The own OPERATOR frame at its sender (R19, R140). -/
theorem takeOwn_operator {s : State} {d : Word} (digest : s.loader.digest = some d) (op : Operation) (groups horizon : Word) :
    takeOwn (.operator op groups horizon d) s
      = (raise classOperatorAny (s.setPoints (operateGroups s.cfg op groups horizon s.points))).setPanel
          { s.panel with queue := s.panel.queue.tail } := by
  rw [takeOwn, takeOperator_own (stationOfField_sentField s), if_pos (by simp [digestMatches, digest])]

/-! ### The other classes -/

/-- Settles O22: each content's own taking, at the end of the frame. -/
theorem ownFramesRemoveTheirEntries : Obligations.OwnFramesRemoveTheirEntries := by
  intro s src content d sends digest attempt
  refine ⟨fun op groups horizon e => ?_, fun count state e => ?_, fun q e => ?_, fun kind requester body e => ?_⟩ <;> subst e
  · refine ⟨_, ownFrameEnd attempt sends (takeOwn_operator (by simpa using digest) op groups horizon), ?_⟩
    refine ⟨fun p => ?_, by rw [settle_panel]; simp, by rw [settle_panel]; simp, by rw [settle_panel]; simp, by rw [settle_panel]; simp,
      by rw [settle_panel]; simp, by rw [settle_panel]; simp, ?_, ?_, ?_, by simp, by simp, by simp, by simp, by simp, by simp,
      (settle_repairTested (by simp) (by simp)).1, (settle_repairTested (by simp) (by simp)).2, by simp [KeepsSetup]⟩
    · simp only [settle_keeps, repairTest_keeps, State.points_setPanel, raise_keeps, State.points_setPoints, frameSent_keeps]
      exact operateGroups_get ..
    · rw [settle_t0_of_transmit (by simpa using sends)]
      · simp
      · simp [raise, frameSent_raised, classOf, actsOn, classTransmit, classOperatorAny, classOperatorOwn]
    · rw [settle_presencePending]; simp
    · simp [raise, frameSent_raised, classOf]
  · refine ⟨_, ownFrameEnd attempt sends rfl, by rw [settle_presencePending]; simp [takeOwn],
      ownFrame_t0 sends (by simp [classOf]) (by simp [takeOwn]) (by simp) rfl,
      by simp [takeOwn, frameSent_raised, classOf], by simp, by simp [takeOwn], by simp [takeOwn], by simp [takeOwn], by simp [takeOwn],
      by simp [takeOwn], by simp, (settle_repairTested (by simp) (by simp [takeOwn])).1,
      (settle_repairTested (by simp) (by simp [takeOwn])).2, keepsPanel_settle (by simp [takeOwn]), by simp [KeepsSetup]⟩
  · refine ⟨_, ownFrameEnd attempt sends rfl, ?_, ownFrame_t0 sends (by simp [classOf]) (by simp [takeOwn]) (by simp) rfl,
      by simp [takeOwn, frameSent_raised, classOf], by simp, by simp [takeOwn], by simp [takeOwn], by simp [takeOwn], by simp [takeOwn],
      by simp [takeOwn], by simp, by rw [settle_presencePending]; simp [takeOwn], keepsPanel_settle (by simp [takeOwn]), by simp [KeepsSetup]⟩
    simp [takeOwn, repairTest, repairMs]
  · refine ⟨_, ownFrameEnd attempt sends rfl, by simp [takeOwn], by simp [takeOwn, frameSent_raised, classOf],
      ownFrame_t0 sends (by simp [classOf]) (by simp [takeOwn]) (by simp) rfl, by simp, by simp [takeOwn], by simp [takeOwn], by simp [takeOwn],
          by simp [takeOwn],
      by simp, (settle_repairTested (by simp) (by simp [takeOwn])).1,
      (settle_repairTested (by simp) (by simp [takeOwn])).2, by rw [settle_presencePending]; simp [takeOwn],
      keepsPanel_settle (by simp [takeOwn]), by simp [KeepsSetup]⟩

/-! ### JOIN -/

/-- Entry to SYNCED, block by block (R97, R98, R105, R121). -/
theorem enterSynced_transfer (s : State) :
    (enterSynced s).transfer = { s.transfer with job := .startPending wholeGrid, pendingRegion := none } := by
  simp [enterSynced, restartWholeGrid]

theorem enterSynced_scanner (s : State) : (enterSynced s).scanner = reconcileRounds s.cfg 24 s.scanner := by
  simp [enterSynced, reconcile, reportCapacity]

theorem enterSynced_seq (s : State) :
    (enterSynced s).seq
      = { s.seq with
          state := .synced
          syncTimer := none
          orderCount := if foundsCount s then 0 else s.seq.orderCount
          countValid := s.seq.countValid || foundsCount s } := by
  simp [enterSynced]

theorem anyStale_eq_false_iff (s : State) : anyStale s = false ↔ ∀ n, isStale s n = false := by
  simp [anyStale, allStations]

/-- The count is founded where none stands, no POINT frame was heard, and no peer is STALE or PRESENT (R97). -/
theorem foundsCount_iff (s : State) :
    foundsCount s = true ↔ s.seq.countValid = false ∧ s.seq.pointHeard = false ∧ anyStale s = false ∧ ∀ n, isPresent s n = false := by
  simp only [foundsCount, allStations, Bool.and_eq_true, Bool.not_eq_true', List.all_eq_true, List.mem_finRange, true_implies, and_assoc,
    anyStale_eq_false_iff, forall_and]

/-- What the entry to SYNCED makes of the order count (R97), with no entry STALE. -/
theorem enterSynced_count {s : State} (stale : anyStale s = false) :
    (s.seq.countValid = true → (enterSynced s).seq.orderCount = s.seq.orderCount ∧ (enterSynced s).seq.countValid = true)
      ∧ (s.seq.countValid = false →
          ((s.seq.pointHeard = false ∧ ∀ n, isPresent s n = false) →
            (enterSynced s).seq.orderCount = 0 ∧ (enterSynced s).seq.countValid = true)
          ∧ ((s.seq.pointHeard = true ∨ ∃ n, isPresent s n = true) →
            (enterSynced s).seq.orderCount = s.seq.orderCount ∧ (enterSynced s).seq.countValid = false)) := by
  rw [enterSynced_seq]
  refine ⟨fun valid => ?_, fun invalid => ⟨fun ⟨unheard, absent⟩ => ?_, fun known => ?_⟩⟩
  · have kept : foundsCount s = false := by
      rw [Bool.eq_false_iff, ne_eq, foundsCount_iff]
      simp [valid]
    simp [kept, valid]
  · have founded : foundsCount s = true := (foundsCount_iff s).2 ⟨invalid, unheard, stale, absent⟩
    simp [founded]
  · have kept : foundsCount s = false := by
      rw [Bool.eq_false_iff, ne_eq, foundsCount_iff]
      rintro ⟨-, unheard, -, absent⟩
      rcases known with heard | ⟨n, present⟩
      · simp [unheard] at heard
      · simp [absent n] at present
    simp [kept, invalid]

/-- Settles O23: `joinSent` in JOINING, by whether a peer is STALE. -/
theorem ownJoinEntersSyncingOrSynced : Obligations.OwnJoinEntersSyncingOrSynced := by
  intro s src d reason joining attempt
  generalize ha : ({ source := src, content := .join d reason } : Attempt) = a at attempt
  have content : a.content = .join d reason := by rw [← ha]
  have stale : anyStale (frameSent a s) = anyStale s := anyStale_congr (by simp) (by simp)
  have raised : (joinSent (frameSent a s)).raised = classTransmit := by simp [frameSent_raised, content, classOf]
  refine ⟨_, ownFrameEnd attempt (by rw [joining]; rfl) (show takeOwn a.content _ = joinSent (frameSent a s) by rw [content]; rfl), ?_⟩
  have pending : (joinSent (frameSent a s)).seq.joinPending = false := by
    unfold joinSent
    split
    · split
      · rfl
      · simp [enterSynced_seq]
    · rfl
  refine ⟨by simpa using pending, by simp, by simpa using raised, by simp, (settle_repairTested (by simp) (by simp)).1,
    (settle_repairTested (by simp) (by simp)).2, by simp, by simp, keepsPanel_settle (by simp), by simp [KeepsSetup], fun some => ?_,
    fun none => ?_⟩
  · have sent : joinSent (frameSent a s)
        = (frameSent a s).setSeq { s.seq with state := .syncing, joinPending := false, syncTimer := .some (8 * s.cfg.presenceMs) } := by
      simp [joinSent, joining, stale, some, syncMs]
    simp [sent]
  · have sent : joinSent (frameSent a s)
        = enterSynced
            ((frameSent a s).setSeq { s.seq with state := .syncing, joinPending := false, syncTimer := .some (8 * s.cfg.presenceMs) }) := by
      simp [joinSent, joining, stale, none, syncMs]
    obtain ⟨u, hu⟩ : ∃ u, (frameSent a s).setSeq
      { s.seq with state := .syncing, joinPending := false, syncTimer := .some (8 * s.cfg.presenceMs) } = u := ⟨_, rfl⟩
    rw [hu] at sent
    have count := enterSynced_count (s := u) (by rw [← none, ← hu]; exact anyStale_congr (by simp) (by simp))
    have present (n : Station) : isPresent u n = isPresent s n := by simp [← hu, isPresent]
    simp only [present] at count
    simp only [settle_keeps, repairTest_keeps, sent]
    refine ⟨by simp [enterSynced_seq], by simp [enterSynced_seq], by simp [enterSynced_scanner, ← hu], by simp [enterSynced_transfer, ← hu], ?_⟩
    have held : u.seq.orderCount = s.seq.orderCount ∧ u.seq.countValid = s.seq.countValid ∧ u.seq.pointHeard = s.seq.pointHeard := by
      simp [← hu]
    simpa only [held] using count

/-! ### SNAPSHOT -/

theorem configRows_eq_map (cfg : Configuration) : configRows cfg = allPoints.map fun p => (p, cfg.points[p]) := by
  have indexed : ((List.finRange 256).map id).zip ((List.finRange 256).map fun q => cfg.points[q]) = _ := List.zip_map'
  rw [List.map_id] at indexed
  rw [configRows, toList_eq_map_finRange cfg.points]
  exact indexed

/-- The own points of a window, in row-major order. -/
theorem pointsInWindow_self (cfg : Configuration) (w : Window) :
    pointsInWindow cfg cfg.self w = allPoints.filter fun p => isOwn cfg p && inWindow w p := by
  simp [pointsInWindow, configRows_eq_map, List.filter_map, Function.comp_def, isOwn, ownPoint]

theorem pointsFrom_self (cfg : Configuration) (w : Window) (c : PointIndex) :
    pointsFrom cfg cfg.self w (some c) = allPoints.filter fun p => isOwn cfg p && inWindow w p && c ≤ p := by
  simp only [pointsFrom, pointsInWindow_self, List.filter_filter]
  congr 1
  funext p
  exact Bool.and_comm _ _

/-- How the job moves past the part sent (R107, R108). -/
theorem advanceJob_started {cfg : Configuration} {t : TransferUnit} {w : Window} {p : PointIndex} {rest : List PointIndex}
    (job : t.job = .startPending w) (points : (allPoints.filter fun q => isOwn cfg q && inWindow w q) = p :: rest) :
    advanceJob cfg t = { t with job := .dataPending w (some p) 1 (rest.length + 1) } := by
  simp only [advanceJob, job, pointsInWindow_self, points]

theorem advanceJob_moved {cfg : Configuration} {t : TransferUnit} {w : Window} {c : PointIndex} {part remaining : Nat}
    (job : t.job = .dataPending w (some c) part remaining) (more : 3 < remaining) :
    advanceJob cfg t
      = { t with job := .dataPending w ((allPoints.filter fun q => isOwn cfg q && inWindow w q && c ≤ q).drop 3).head? (part + 1)
                          (remaining - 3) } := by
  have size : partSize remaining = 3 := by rw [partSize]; omega
  simp only [advanceJob, job, size, pointsFrom_self]
  rw [if_neg (by omega)]

/-- The job ends with a window that holds no own point, and behind its last part. -/
theorem advanceJob_ended {cfg : Configuration} {t : TransferUnit}
    (h : (∃ w : Window, t.job = .startPending w ∧ ∀ q : PointIndex, isOwn cfg q = true → inWindow w q = false)
      ∨ ∃ (w : Window) (c : Option PointIndex) (part remaining : Nat), t.job = .dataPending w c part remaining ∧ remaining ≤ 3) :
    advanceJob cfg t = finishJob t := by
  rcases h with ⟨w, job, empty⟩ | ⟨w, c, part, remaining, job, last⟩
  · have none : (allPoints.filter fun q => isOwn cfg q && inWindow w q) = [] := by
      rw [List.filter_eq_nil_iff]
      intro q _
      simpa using empty q
    simp only [advanceJob, job, pointsInWindow_self, none]
  · simp only [advanceJob, job]
    rw [if_pos (by rw [partSize]; omega)]

theorem advanceJob_drops (cfg : Configuration) (t : TransferUnit) :
    (advanceJob cfg t).regionDrops = t.regionDrops ∧ (advanceJob cfg t).transferDrops = t.transferDrops := by
  have finish : (finishJob t).regionDrops = t.regionDrops ∧ (finishJob t).transferDrops = t.transferDrops := by
    unfold finishJob
    split <;> exact ⟨rfl, rfl⟩
  unfold advanceJob
  split
  · exact ⟨rfl, rfl⟩
  · split
    · exact finish
    · exact ⟨rfl, rfl⟩
  · split
    · exact finish
    · exact ⟨rfl, rfl⟩

/-- Settles O24: the cases of `advanceJob`. -/
theorem ownSnapshotAdvancesTheJob : Obligations.OwnSnapshotAdvancesTheJob := by
  intro s src content sends attempt cls
  generalize ha : ({ source := src, content := content } : Attempt) = a at attempt
  have raised : (frameSent a s).raised = classTransmit := by rw [frameSent_raised, ← ha, cls]; rfl
  have taken : takeOwn a.content (frameSent a s) = (frameSent a s).setTransfer (advanceJob s.cfg s.transfer) := by
    rw [← ha]
    cases content with
    | start _ _ _ _ | data _ _ _ => simp [takeOwn]
    | point _ _ _ | operator _ _ _ _ | join _ _ | presence _ _ _ | query _ | reply _ _ _ => cases cls
  refine ⟨_, ownFrameEnd attempt sends taken, by simp, by simp [advanceJob_drops], by simp [advanceJob_drops], by simp, by simp, by simp, by simp,
    by simp, by simpa using raised, by simp, (settle_repairTested (by simp) (by simp)).1, (settle_repairTested (by simp) (by simp)).2,
    keepsPanel_settle (by simp), by simp [KeepsSetup], ?_⟩
  simp only [settle_keeps, repairTest_keeps, State.transfer_setTransfer]
  refine ⟨fun w p rest job points => ?_, fun w c part remaining job more => ?_, fun ended => ?_⟩
  · rw [advanceJob_started job points]
    exact ⟨rfl, rfl⟩
  · rw [advanceJob_moved job more]
    exact ⟨rfl, rfl⟩
  · rw [advanceJob_ended ended]
    refine ⟨fun none => ?_, fun w some => ?_⟩
    · simp [finishJob, none]
    · simp [finishJob, some]

end Sys2Proof.Machine
end

section
/-! PROOFS. Failed attempts, withdrawal and halt, and the frames that reach no consumer (R35, R37 to R48, R86 to R88, R156). -/

namespace Sys2Proof.Machine

open Sys2Proof

/-! ## The repair timer and T0 (R86, R156) -/

theorem exec_t0PresenceExpiry_stopped {s : State} (h : s.timers.t0 ≠ .counting 0) : exec .t0PresenceExpiry s = .next s := by
  change execT0PresenceExpiry s = _
  rw [execT0PresenceExpiry, if_neg h]

theorem exec_t0PresenceExpiry_due {s : State} (h : s.timers.t0 = .counting 0) :
    exec .t0PresenceExpiry s
      = .next ((s.setTimers { s.timers with t0 := .counting s.cfg.presenceMs, presencePending := true }).setRaised 0) := by
  change execT0PresenceExpiry s = _
  rw [execT0PresenceExpiry, if_pos h]
  rfl

/-- The end of the station's own PRESENCE frame: the flag is clear, and T0 counts from P (R51, R155). -/
theorem ownPresence_end {s : State} {src : Source} {d : Word} {count : Option Word} {state : LineState}
    (sends : transmits s.seq.state = true) (attempt : s.line.attempt = some { source := src, content := .presence d count state }) :
    ∃ t, exec .ownFrameSuccessfulEnd s = .next t ∧ t.timers.presencePending = false ∧ t.timers.t0 = .counting s.cfg.presenceMs :=
  ⟨_, ownFrameEnd attempt sends rfl, by rw [settle_presencePending]; simp [takeOwn],
    ownFrame_t0 sends (by simp [classOf]) (by simp [takeOwn]) (by simp) rfl⟩

/-- Settles O43: the end of the own PRESENCE frame reloads T0, whichever of the two comes first. -/
theorem repairAndPresenceExpiries : Obligations.RepairAndPresenceExpiries := by
  refine ⟨fun s src d count state sends attempt _ reload => ?_, fun s src d count state sends attempt due => ?_, fun s =>
    ⟨fun stopped => ?_, exec_t0PresenceExpiry_stopped, fun due => ?_, exec_t0PresenceExpiry_due⟩⟩
  · obtain ⟨t, ended, pending, t0⟩ := ownPresence_end sends attempt
    exact ⟨t, ended, exec_t0PresenceExpiry_stopped (by rw [t0]; simpa using reload), pending, t0⟩
  · obtain ⟨u, ended, pending, t0⟩ := ownPresence_end
      (s := (s.setTimers { s.timers with t0 := .counting s.cfg.presenceMs, presencePending := true }).setRaised 0) sends attempt
    exact ⟨_, u, exec_t0PresenceExpiry_due due, ended, pending, t0⟩
  · change execRepairTimerExpiry s = _
    rw [execRepairTimerExpiry, if_neg stopped]
  · refine ⟨repairTest ((newMoment s).setMembers { s.members with repairTimer := none }), ?_, ?_, ?_, fun clear => ?_, fun set => ?_⟩
    · change execRepairTimerExpiry s = _
      rw [execRepairTimerExpiry, if_pos due]
    · rw [repairTest_eq]
      rfl
    · rw [repairTest_members_eq]
      rfl
    · rw [repairTest_flag]
      change (if s.members.repairFlag then anyStale s || repairOnLine s else s.seq.state == .synced && anyStale s && true) = _
      simp [clear]
    · rw [repairTest_flag]
      change (if s.members.repairFlag then anyStale s || repairOnLine s else s.seq.state == .synced && anyStale s && true) = _
      simp [set]

/-! ## The ends of an attempt (R37, R38, R42) -/

theorem exec_lostArbitration {s : State} {a : Attempt} (sends : transmits s.seq.state = true) (attempt : s.line.attempt = some a) :
    exec .lostArbitration s = .next (repairTest (attemptOver s)) := by
  change execLostArbitration s = _
  simp [execLostArbitration, liveAttempt, sends, attempt]

theorem exec_attemptVoided {s : State} {a : Attempt} (sends : transmits s.seq.state = true) (attempt : s.line.attempt = some a) :
    exec .attemptVoided s = .next (afterFailure (failedAttempt 0 s)) := by
  change execAttemptVoided s = _
  simp [execAttemptVoided, liveAttempt, sends, attempt, failedAttempt]

theorem exec_echoMismatch {s : State} {a : Attempt} (sends : transmits s.seq.state = true) (attempt : s.line.attempt = some a) :
    exec .echoMismatch s
      = .next
          (if 2 ≤ s.line.mismatches then settle (enterHalted (failedAttempt (s.line.mismatches + 1) s))
            else afterFailure (failedAttempt (s.line.mismatches + 1) s)) := by
  change execEchoMismatch s = _
  simp only [execEchoMismatch, liveAttempt, sends, attempt, if_true, mismatchLimit, Nat.reduceLeDiff, failedAttempt, attemptOver_line]
  by_cases h : 2 ≤ s.line.mismatches
  · rw [if_pos h, if_pos (by omega)]
  · rw [if_neg h, if_neg (by omega)]

/-- The counts of a failure short of the limit (R42). -/
theorem afterFailure_short {s : State} (mismatches : Nat) (short : s.line.failures < 15) :
    afterFailure (failedAttempt mismatches s) = repairTest (failedAttempt mismatches s) := by
  rw [afterFailure, if_neg]
  simp only [failedAttempt, failureLimit, State.line_setLine]
  omega

/-- The failure that reaches the limit withdraws the station (R43). -/
theorem afterFailure_last {s : State} (mismatches : Nat) (last : s.line.failures = 15) :
    afterFailure (failedAttempt mismatches s) = settle (enterWithdrawn (failedAttempt mismatches s)) := by
  rw [afterFailure, if_pos]
  simp [failedAttempt, failureLimit, last]

/-- What an attempt that ends otherwise than by its success leaves, but for the line controller's own items: the repair test's flag. -/
theorem repairTest_of_line {s u : State} {line : LineController} (hu : u = (s.setLine line).setRaised 0) (free : line.attempt = none) :
    repairTest u = ((s.setLine line).setRaised 0).setMembers (repairTest u).members
      ∧ (repairTest u).members = { s.members with repairFlag := (repairTest u).members.repairFlag } ∧ RepairTested s (repairTest u) := by
  subst hu
  exact ⟨repairTest_eq _, repairTest_members_eq _, repairTested_repairTest free rfl rfl⟩

/-! ## Frames that reach no consumer (R35, R39, R40, R88) -/

theorem whenHeard_of_deaf {gap : Nat} {s : State} (h : hears gap s = false) (effect : State → State) : whenHeard gap effect s = s := by
  rw [whenHeard, h]
  rfl

/-- No frame changes a station that does not hear it (R35, R88). -/
theorem exec_frame_of_deaf {c : Instr} {gap : Nat} {s : State} (frame : frameGap c = some gap) (deaf : hears gap s = false) :
    exec c s = .next s := by
  cases c with
  | pointFrame _ _ | operatorFrame _ _ | joinFrame _ _ | snapshotStart _ _ | snapshotData _ _ | presenceFrame _ _ | queryStatus _ _
  | queryMembers _ _ | queryRegion _ _ | queryRestart _ _ | replyFrame _ _ | unassignedFrame _ _ | faultyFrameReceived _ =>
    cases frame
    exact congrArg Host.Outcome.next (whenHeard_of_deaf deaf _)
  | hardwareReset _ | resetRelease _ _ _ | imageReadComplete _ | loadChecksComplete | attemptStart | lostArbitration | echoMismatch
  | attemptVoided | ownFrameSuccessfulEnd | voidSeen | listenTimerExpiry | syncTimerExpiry | holdOffExpiry | absentTimeout _
  | repairTimerExpiry | t0PresenceExpiry | activityTimerExpiry _ | lampTestTimeout | fieldInputChange _ _ | inputSettlingExpiry _
  | buttonInputChange _ _ | buttonSettlingExpiry _ | inputSettlingAbandoned _ | buttonSettlingAbandoned _ => cases frame

theorem exec_voidSeen_of_deaf {s : State} (deaf : hears 0 s = false) : exec .voidSeen s = .next s :=
  congrArg Host.Outcome.next (whenHeard_of_deaf deaf _)

theorem hears_of_not_receives {s : State} (h : receives s.seq.state = false) (gap : Nat) : hears gap s = false := by
  simp [hears, h]

theorem hears_of_awaiting {s : State} (h : s.line.awaitsGap = true) {gap : Nat} (short : gap < 11) : hears gap s = false := by
  rw [Bool.eq_false_iff, ne_eq, hears_iff]
  rintro ⟨-, seen | long⟩
  · simp [h] at seen
  · omega

/-- Settles O25: a station that hears discards the frame, and one that does not is left as it is. -/
theorem discardedFramesReachNoConsumer : Obligations.DiscardedFramesReachNoConsumer := by
  refine ⟨fun s gap => hears_iff gap s, fun s gap fault sender payload heard => ⟨?_, ?_⟩, fun s receiving seen => ?_, fun s c deaf frame => ?_,
    fun s c waiting frame => ?_⟩
  · refine ⟨_, congrArg Host.Outcome.next (whenHeard_of_hears heard _), repairTest_of_line ?_ rfl⟩
    cases fault <;> rfl
  · exact ⟨_, congrArg Host.Outcome.next (whenHeard_of_hears heard _), repairTest_of_line rfl rfl⟩
  · have heard : hears 0 s = true := (hears_iff 0 s).2 ⟨receiving, .inl seen⟩
    refine ⟨_, congrArg Host.Outcome.next (whenHeard_of_hears heard _), repairTest_of_line ?_ rfl⟩
    simp [listeningFrame, gapSeen, releaseLine, newMoment, State.setLine, State.setRaised, seen]
  · rcases frame with frame | rfl
    · obtain ⟨gap, frame⟩ := Option.isSome_iff_exists.1 frame
      exact exec_frame_of_deaf frame (hears_of_not_receives deaf gap)
    · exact exec_voidSeen_of_deaf (hears_of_not_receives deaf 0)
  · rcases frame with ⟨gap, frame, short⟩ | rfl
    · exact exec_frame_of_deaf frame (hears_of_awaiting waiting short)
    · exact exec_voidSeen_of_deaf (hears_of_awaiting waiting (by decide))

/-! ## Halt (R46 to R48, R101) -/

/-- What a halt leaves of a moment (R48, R101, R134, R142, R162). -/
theorem settle_enterHalted (u : State) :
    (settle (enterHalted u)).timers.t0 = .idle ∧ (settle (enterHalted u)).timers.t1 = .idle ∧ (settle (enterHalted u)).timers.t2 = .idle
      ∧ (settle (enterHalted u)).timers.t3 = .idle
      ∧ (settle (enterHalted u)).timers.presencePending = u.timers.presencePending ∧ (settle (enterHalted u)).panel.horn = .silent
      ∧ (settle (enterHalted u)).lamp = { u.lamp with test := .idle } := by
  obtain ⟨a0, a1, a2, a3⟩ : armedAs (t0Armed (enterHalted u)) (settle (enterHalted u)).timers.t0
      ∧ armedAs (t1Armed (enterHalted u)) (settle (enterHalted u)).timers.t1 ∧ armedAs (t2Armed (enterHalted u)) (settle (enterHalted u)).timers.t2
      ∧ armedAs (t3Armed (enterHalted u)) (settle (enterHalted u)).timers.t3 := by simpa using armedAs_settle (enterHalted u)
  refine ⟨a0.2 rfl, a1.2 (by simp [t1Armed, enterHalted, panelRuns]), a2.2 (by simp [t2Armed, enterHalted, panelRuns]),
    a3.2 (by simp [t3Armed, enterHalted, panelRuns]), by rw [settle_presencePending]; rfl, ?_, by simp [enterHalted]⟩
  rw [settle_horn]
  simp [hornPattern, enterHalted, panelRuns]

/-- Settles O19: the third mismatch halts, whatever the failure count (R46). -/
theorem thirdEchoMismatchHalts : Obligations.ThirdEchoMismatchHalts := by
  intro s a sends attempt third
  refine ⟨_, by rw [exec_echoMismatch sends attempt, if_pos (by omega)], ?_⟩
  obtain ⟨t0, t1, t2, t3, pending, horn, lamp⟩ := settle_enterHalted (failedAttempt (s.line.mismatches + 1) s)
  refine ⟨by simp [enterHalted, failedAttempt], by simp [enterHalted, failedAttempt, third], by simp [enterHalted, failedAttempt],
    by simp [enterHalted, failedAttempt], by simp [enterHalted, failedAttempt], by simp [enterHalted, failedAttempt],
    by simp [enterHalted, failedAttempt], by simp [enterHalted, failedAttempt], by rw [settle_panel]; simp [enterHalted, failedAttempt],
    t0, t1, t2, t3, by simpa [failedAttempt] using pending, horn, by simpa [failedAttempt] using lamp,
    by simp [KeepsSetup, enterHalted, failedAttempt], by simp [fltAsserted, enterHalted]⟩

/-- The row of a frame of classes 0 to 6, by its gap and its sender. -/
theorem deliveredFrame_of_heading {c : Instr} {gap : Nat} {f : StationField} (frame : frameGap c = some gap) (sender : frameSender c = some f)
    (delivered : isDeliveredFrame c = true) :
    ∃ cls heading payload, deliveredFrame c = some (cls, heading, payload) ∧ heading.gap = gap ∧ heading.sender = f := by
  rw [isDeliveredFrame_iff] at delivered
  obtain ⟨⟨cls, heading, payload⟩, row⟩ := Option.isSome_iff_exists.1 delivered
  refine ⟨cls, heading, payload, row, ?_⟩
  unfold deliveredFrame at row
  split at row <;> cases row <;> cases frame <;> cases sender <;> exact ⟨rfl, rfl⟩

/-- Settles O20: the halt takes the place of the frame's taking (R47). -/
theorem ownNumberHeardHalts : Obligations.OwnNumberHeardHalts := by
  intro s gap n c frame heard self delivered sender
  obtain ⟨cls, heading, payload, row, rfl, signed⟩ := deliveredFrame_of_heading frame sender delivered
  have own : ownField (gapSeen s) = some heading.sender := by simp [ownField, self, signed]
  refine ⟨settle (enterHalted (listeningFrame (gapSeen s))), ?_, ?_⟩
  · rw [exec_deliveredFrame row, frameEnds, whenHeard_of_hears heard]
    exact congrArg Host.Outcome.next (if_pos own)
  obtain ⟨t0, t1, t2, t3, pending, horn, lamp⟩ := settle_enterHalted (listeningFrame (gapSeen s))
  refine ⟨by simp [enterHalted], by simp [enterHalted, gapSeen], by simp [enterHalted], by simp [enterHalted], by simp [enterHalted],
    by simp [enterHalted], by simp [enterHalted], by rw [settle_panel]; simp [enterHalted], by rw [settle_panel]; simp [enterHalted],
    by rw [settle_panel]; rfl, by rw [settle_panel]; rfl, by rw [settle_panel]; rfl, by rw [settle_panel]; rfl,
    t0, t1, t2, t3, by simpa using pending, horn, by simpa using lamp, by simp [KeepsSetup, enterHalted], by simp [fltAsserted, enterHalted]⟩

/-! ## Withdrawal (R43, R44) -/

/-- A timer that is armed already, over a moment that raises nothing: it runs on, or is IDLE once its condition has ended (R153). -/
theorem timerMoment_silent {before after : Bool} {reloadMs : Nat} {t : TimerState} (h : armedAs (reloadMs != 0 && before) t)
    (sooner : after = true → before = true) : timerMoment (reloadMs != 0 && after) false reloadMs t = if after then t else .idle := by
  by_cases stopped : reloadMs = 0
  · have idle : t = .idle := h.2 (by simp [stopped])
    simp [idle, stopped, timerMoment]
  · cases after with
    | false => simp [timerMoment]
    | true =>
      cases t with
      | idle =>
        have off := h.1 rfl
        simp [stopped, sooner] at off
      | counting _ | expired => simp [stopped, timerMoment]

/-- Losing points puts none where a test that no LOST record passes asks for one. -/
theorem controlCount_pos_of_lost {cfg : Configuration} {records records' : Records} {test : PointRecord → Bool}
    (kept : ∀ p : PointIndex, records'[p] = records[p] ∨ records'[p].state = .lost) (lost : ∀ r : PointRecord, r.state = .lost → test r = false)
    (h : 0 < controlCount cfg records' test) : 0 < controlCount cfg records test := by
  obtain ⟨p, named, passes⟩ := (controlCount_pos cfg records' test).1 h
  refine (controlCount_pos cfg records test).2 ⟨p, named, ?_⟩
  rcases kept p with e | e
  · rwa [← e]
  · rw [lost _ e] at passes
    cases passes

theorem hornDemand_of_lost {cfg : Configuration} {records records' : Records}
    (kept : ∀ p : PointIndex, records'[p] = records[p] ∨ records'[p].state = .lost) (h : hornDemand cfg records' = true) :
    hornDemand cfg records = true := by
  simp only [hornDemand, Bool.or_eq_true, decide_eq_true_eq] at h ⊢
  exact h.imp (controlCount_pos_of_lost kept fun r lost => by simp [lost, isUnacknowledged])
    (controlCount_pos_of_lost kept fun r lost => by simp [lost])

theorem isUnacknowledged_iff (state : PointState) : isUnacknowledged state = true ↔ state = .alert ∨ state = .returned := by
  cases state <;> decide

theorem inControlSet_iff (cfg : Configuration) (p : PointIndex) :
    inControlSet cfg p = true ↔ isUsed cfg p = true ∧ cfg.controlSet.getLsbD cfg.points[p].group.val = true := by
  simp only [inControlSet, controlPoint, Bool.and_eq_true]
  rfl

theorem unacknowledgedCount_pos (cfg : Configuration) (records : Records) :
    0 < unacknowledgedCount cfg records ↔ ∃ p : PointIndex, isUsed cfg p = true ∧ cfg.controlSet.getLsbD cfg.points[p].group.val = true
      ∧ (records[p].state = .alert ∨ records[p].state = .returned) := by
  simp only [unacknowledgedCount, controlCount_pos, inControlSet_iff, isUnacknowledged_iff, and_assoc]

/-- The activity timers behind a withdrawal, at a station whose timers are armed as their conditions have it (R162). -/
theorem enterWithdrawn_timers {s u : State} (armed : TimersInv s) (runs : panelRuns s.seq.state = true) (cfg : u.cfg = s.cfg)
    (points : u.points = s.points) (timers : u.timers = s.timers) (silent : u.raised = 0) :
    (settle (enterWithdrawn u)).timers.t1 = s.timers.t1
      ∧ (settle (enterWithdrawn u)).timers.t2
          = (if 0 < unacknowledgedCount s.cfg (loseOthers s.cfg s.points) then s.timers.t2 else .idle)
      ∧ (settle (enterWithdrawn u)).timers.t3 = if hornDemand s.cfg (loseOthers s.cfg s.points) then s.timers.t3 else .idle := by
  obtain ⟨-, a1, a2, a3, -⟩ := armed
  have quiet (mask : Byte) : actsOn (enterWithdrawn u).raised mask = false := by simp [enterWithdrawn, silent, actsOn]
  have lost (p : PointIndex) : (loseOthers s.cfg s.points)[p] = s.points[p] ∨ (loseOthers s.cfg s.points)[p].state = .lost := by
    rw [loseOthers_get]
    split
    · exact .inr (lose_state _)
    · exact .inl rfl
  have demand2 : 0 < unacknowledgedCount s.cfg (loseOthers s.cfg s.points) → 0 < unacknowledgedCount s.cfg s.points :=
    controlCount_pos_of_lost lost fun r e => by simp [e, isUnacknowledged]
  have demand3 : hornDemand s.cfg (loseOthers s.cfg s.points) = true → hornDemand s.cfg s.points = true := hornDemand_of_lost lost
  have withdrawn : (enterWithdrawn u).cfg = s.cfg ∧ (enterWithdrawn u).points = loseOthers s.cfg s.points
      ∧ (enterWithdrawn u).seq.state = .withdrawn ∧ (enterWithdrawn u).timers.t1 = s.timers.t1
      ∧ (enterWithdrawn u).timers.t2 = s.timers.t2 ∧ (enterWithdrawn u).timers.t3 = s.timers.t3 := by
    simp [enterWithdrawn, cfg, points, timers]
  have still : panelRuns .withdrawn = true := rfl
  simp only [t1Armed, t2Armed, t3Armed, runs, Bool.and_true] at a1 a2 a3
  rw [settle_timers]
  simp only [settleTimers, State.timers_setTimers, quiet, t1Armed, t2Armed, t3Armed, withdrawn, still, Bool.and_true]
  refine ⟨?_, ?_, timerMoment_silent a3 demand3⟩
  · simpa using timerMoment_silent (before := true) (after := true) (by simpa using a1) (fun _ => rfl)
  · simpa using timerMoment_silent (after := decide (0 < unacknowledgedCount s.cfg (loseOthers s.cfg s.points))) a2 (by simpa using demand2)

/-- Settles O18: `enterWithdrawn` behind the sixteenth failure. -/
theorem sixteenthFailureWithdraws : Obligations.SixteenthFailureWithdraws := by
  intro s a c sends attempt fifteenth cause
  obtain ⟨mismatches, ended⟩ : ∃ mismatches, exec c s = .next (settle (enterWithdrawn (failedAttempt mismatches s))) := by
    rcases cause with rfl | ⟨rfl, few⟩
    · exact ⟨0, by rw [exec_attemptVoided sends attempt, afterFailure_last _ fifteenth]⟩
    · exact ⟨_, by rw [exec_echoMismatch sends attempt, if_neg (by omega), afterFailure_last _ fifteenth]⟩
  have runs : panelRuns s.seq.state = true := by
    cases h : s.seq.state <;> simp [h, transmits] at sends <;> rfl
  have records : (settle (enterWithdrawn (failedAttempt mismatches s))).points = loseOthers s.cfg s.points := by
    simp [enterWithdrawn, failedAttempt]
  refine ⟨_, ended, by simp [enterWithdrawn, failedAttempt], by simp [enterWithdrawn, failedAttempt, holdOffMs, stepCounter]; rfl,
    fun p => by rw [records, loseOthers_get], fun n => by simp [enterWithdrawn, clearedMembers], by simp [enterWithdrawn, clearedMembers],
    by simp [enterWithdrawn, clearedMembers], by simp [enterWithdrawn, clearedMembers, failedAttempt],
    by simp [enterWithdrawn, clearedTransfer], by simp [enterWithdrawn, clearedTransfer], fun n => by simp [enterWithdrawn, clearedTransfer],
    by simp [enterWithdrawn, clearedTransfer, failedAttempt], by simp [enterWithdrawn, clearedTransfer, failedAttempt],
    by simp [enterWithdrawn, failedAttempt], by simp [enterWithdrawn], by rw [settle_panel]; simp [enterWithdrawn],
    by rw [settle_panel]; simp [enterWithdrawn, failedAttempt], by rw [settle_panel]; simp [enterWithdrawn, failedAttempt],
    by rw [settle_panel]; simp [enterWithdrawn, failedAttempt], by rw [settle_panel]; simp [enterWithdrawn, failedAttempt],
    by rw [settle_panel]; simp [enterWithdrawn, failedAttempt], by rw [settle_presencePending]; rfl, ?_, fun armed => ?_,
    by simp [enterWithdrawn, failedAttempt], by simp [KeepsSetup, enterWithdrawn, failedAttempt], by simp [fltAsserted, enterWithdrawn]⟩
  · exact (armedAs_settle _).1.2 rfl
  · obtain ⟨t1, t2, t3⟩ := enterWithdrawn_timers (u := failedAttempt mismatches s) armed runs rfl rfl rfl rfl
    refine ⟨t1, fun unacknowledged => ?_, fun none => ?_, fun demand => ?_, fun demand => ?_⟩
    · rw [t2, ← records, if_pos ((unacknowledgedCount_pos _ _).2 unacknowledged)]
    · rw [t2, ← records, if_neg]
      rw [unacknowledgedCount_pos]
      rintro ⟨p, used, named, state⟩
      exact none p used named state
    · rw [t3, ← records, if_pos demand]
    · rw [t3, ← records, demand]; rfl

end Sys2Proof.Machine
end

section
/-! PROOFS. The transmit selector, and the frames its sources build (R49, R50, R62, R81, R85, R93, R107, R108, R140, R179 to R181). -/

namespace Sys2Proof.Machine

open Sys2Proof

/-! ## Selection (R50) -/

/-- In a list sorted by a key, the first element that passes a test is the one with the least key. -/
theorem find?_of_least {α : Type} {key : α → Nat} {test : α → Bool} {x : α} (least : ∀ y, test y = true → key x ≤ key y) (passes : test x = true) :
    ∀ {xs : List α}, xs.Pairwise (fun a b => key a < key b) → x ∈ xs → xs.find? test = some x
  | y :: ys, sorted, member => by
    obtain ⟨head, tail⟩ := List.pairwise_cons.1 sorted
    rw [List.find?_cons]
    rcases List.mem_cons.1 member with rfl | later
    · rw [passes]
    · have fails : test y = false := by
        by_contra h
        have := least y (by simpa using h)
        have := head x later
        omega
      rw [fails]
      exact find?_of_least least passes tail later

theorem mem_allSources (src : Source) : src ∈ allSources := by cases src <;> decide

theorem allSources_sorted :
    allSources.Pairwise fun a b => (classCode (classOfSource a)).toNat < (classCode (classOfSource b)).toNat := by decide

theorem selectSource_of_least {s : State} {src : Source} (allowed : sourceAllowed s.seq.state src = true) (ready : sourceReady s src = true)
    (least : ∀ other : Source, sourceAllowed s.seq.state other = true → sourceReady s other = true →
      (classCode (classOfSource src)).toNat ≤ (classCode (classOfSource other)).toNat) : selectSource s = some src := by
  refine find?_of_least (fun other h => ?_) (by rw [allowed, ready]; rfl) allSources_sorted (mem_allSources src)
  rw [Bool.and_eq_true] at h
  exact least other h.1 h.2

theorem exec_attemptStart_selected {s : State} {a : Attempt} (free : s.line.attempt = none) (selected : selectAttempt s = some a) :
    exec .attemptStart s = .next (s.setLine { s.line with attempt := some a, drive := .frame, awaitsGap := false }) := by
  change execAttemptStart s = _
  simp only [execAttemptStart, free, selected]

theorem exec_attemptStart_idle {s : State} (free : s.line.attempt = none) (idle : selectAttempt s = none) : exec .attemptStart s = .next s := by
  change execAttemptStart s = _
  simp only [execAttemptStart, free, idle]

theorem exec_attemptStart_busy {s : State} {a : Attempt} (busy : s.line.attempt = some a) : exec .attemptStart s = .next s := by
  change execAttemptStart s = _
  simp only [execAttemptStart, busy]

/-- The sources that a line state allows (R49). -/
theorem sourceAllowed_iff (state : LineState) (src : Source) :
    sourceAllowed state src = true ↔
      state = .synced
      ∨ (state = .joining ∧ (src = .sequencer ∨ src = .timerT0 ∨ src = .serviceResponder))
      ∨ (state = .syncing ∧ (src = .timerT0 ∨ src = .serviceResponder)) := by
  cases state <;> cases src <;> decide

/-! ## The frames built (R50) -/

theorem ownDigest_of_digest {s : State} {d : Word} (digest : s.loader.digest = some d) : ownDigest s = d := by rw [ownDigest, digest]; rfl

/-- The STALE station of the lowest number is asked for its points (R85). -/
theorem lowestStale_eq {s : State} {n : Station} (stale : isStale s n = true) (lowest : ∀ m : Station, m < n → isStale s m = false) :
    lowestStale s = some n := by
  refine find?_of_least (key := fun m => m.val) (fun m h => ?_) stale ?_ (List.mem_finRange n)
  · by_contra below
    rw [lowest m (Nat.lt_of_not_le below)] at h
    cases h
  · exact List.pairwise_lt_finRange 30

theorem partSize_eq_iff (remaining : Nat) : (partSize remaining == remaining) = decide (remaining ≤ 3) := by
  rw [Bool.eq_iff_iff]
  simp only [partSize, beq_iff_eq, decide_eq_true_eq]
  omega

/-- The START and DATA frames of the job (R107, R108). -/
theorem buildSnapshot_start {s : State} {d : Word} {w : Window} (digest : s.loader.digest = some d) (job : s.transfer.job = .startPending w) :
    buildSnapshot s
      = some (.start w (allPoints.countP fun p => isOwn s.cfg p && inWindow w p)
          (if s.seq.countValid then some s.seq.orderCount else none) d) := by
  simp only [buildSnapshot, job, ownDigest_of_digest digest, pointsInWindow_self, List.countP_eq_length_filter]
  rfl

theorem buildSnapshot_data {s : State} {w : Window} {c : PointIndex} {part remaining : Nat}
    (job : s.transfer.job = .dataPending w (some c) part remaining) :
    buildSnapshot s
      = some (.data part (remaining ≤ 3)
          (((allPoints.filter fun p => isOwn s.cfg p && inWindow w p && c ≤ p).take (min 3 remaining)).map
            fun p => wireOfRecord s.points[p])) := by
  simp only [buildSnapshot, job, partSize_eq_iff, pointsFrom_self]
  rfl

/-! ## The STATUS body (R62, R180) -/

theorem queueByte_toNat {s : State} (reports : s.scanner.queue.length ≤ 24) (operations : s.panel.queue.length ≤ 4) :
    (queueByte s).toNat = 8 * s.scanner.queue.length + s.panel.queue.length := by
  rw [queueByte, BitVec.toNat_append, ← Nat.shiftLeft_add_eq_or_of_lt (BitVec.isLt _), Nat.shiftLeft_eq, BitVec.toNat_ofNat, BitVec.toNat_ofNat]
  omega

theorem unreportedCount_toNat (cfg : Configuration) (scanner : InputScanner) :
    (BitVec.ofNat 8 (unreportedCount cfg scanner)).toNat
      = allLines.countP fun l => (pointOfLine cfg l).isSome && scanner.lines[l].debouncer.stable != scanner.lines[l].reported := by
  have short : unreportedCount cfg scanner ≤ 32 := List.countP_le_length
  rw [BitVec.toNat_ofNat, Nat.mod_eq_of_lt (by omega), unreportedCount]
  congr 1
  funext l
  rw [isUnreported, isScanned, Bool.and_comm]

theorem statusBody_eq {s : State} {d : Word} (digest : s.loader.digest = some d) :
    statusBody s
      = [stateByte s.seq.countValid s.seq.state, queueByte s, BitVec.ofNat 8 s.line.failures, s.line.withdrawals, s.line.voidsDriven,
          s.panel.pressDrops, s.transfer.regionDrops, s.transfer.transferDrops, s.members.orderDisagreements,
          if s.seq.countValid then highByte s.seq.orderCount else 0, if s.seq.countValid then lowByte s.seq.orderCount else 0,
          highByte d, lowByte d, BitVec.ofNat 8 (unreportedCount s.cfg s.scanner)] := by
  have count : countBytes (carriedCount s)
      = [if s.seq.countValid then highByte s.seq.orderCount else 0, if s.seq.countValid then lowByte s.seq.orderCount else 0] := by
    rw [carriedCount]
    cases s.seq.countValid with
    | true => rfl
    | false => exact (by decide : countBytes none = [0, 0])
  rw [statusBody, ownDigest_of_digest digest, count]
  rfl

/-! ## The MEMBERS body (R62, R181) -/

theorem memberCode_toNat (s : State) (n : Station) :
    (memberCode s (numberOf n)).toNat
      = if s.cfg.self = some n then 15
        else (codeOfMember s.members.entries[n].state).toNat := by
  simp only [memberCode, stationOfNumber_numberOf]
  split <;> rfl

/-- The codes of a pair of stations, in the high and the low four bits. -/
theorem nibbles_toNat (a b : BitVec 4) : (a ++ b).toNat / 16 = a.toNat ∧ (a ++ b).toNat % 16 = b.toNat := by
  have low := b.isLt
  rw [BitVec.toNat_append, ← Nat.shiftLeft_add_eq_or_of_lt b.isLt, Nat.shiftLeft_eq]
  omega

theorem membersBody_code (s : State) (half : Bool) (n : Station) (k : Nat) (place : n.val = (if half then 15 else 0) + k) (short : k < 15) :
    ∃ b : Byte, (membersBody s half)[1 + k / 2]? = some b
      ∧ (if k % 2 = 0 then b.toNat / 16 else b.toNat % 16) = (memberCode s (numberOf n)).toNat := by
  have number : numberOf n = (if half then 16 else 1) + k := by
    rw [numberOf, place]
    cases half <;> simp <;> omega
  have pair : k / 2 < 8 := by omega
  refine ⟨_, by rw [membersBody, Nat.add_comm 1 (k / 2), List.getElem?_cons_succ, List.getElem?_map, List.getElem?_range pair]; rfl, ?_⟩
  rw [(nibbles_toNat _ _).1, (nibbles_toNat _ _).2]
  by_cases even : k % 2 = 0
  · rw [if_pos even, number, show 2 * (k / 2) = k by omega]
  · rw [if_neg even, if_pos (by omega), number, show (if half then 16 else 1) + 2 * (k / 2) + 1 = (if half then 16 else 1) + k by omega]

/-- Settles O16: selection by `selectSource_of_least`, and each source's frame. -/
theorem selectorBuildsTheLowestReadyClass : Obligations.SelectorBuildsTheLowestReadyClass := by
  refine ⟨fun s => ⟨fun src content free allowed ready least built => ?_, fun free idle => ?_, fun busy => ?_, ?_, ?_, Iff.rfl, ?_, Iff.rfl,
    Iff.rfl, ?_⟩, sourceAllowed_iff, fun s d digest => ⟨fun e rest queue => ?_, ?_, ?_, fun w job => buildSnapshot_start digest job,
      fun w c part remaining job => buildSnapshot_data job, fun n stale lowest => ?_, fun r request => ?_, fun reports operations failures => ?_,
      fun half => ⟨rfl, rfl, fun n k place short => ?_⟩⟩⟩
  · refine exec_attemptStart_selected free ?_
    simp only [selectAttempt, selectSource_of_least allowed ready least, built, Option.map_some]
  · have none : selectSource s = none := by
      rw [selectSource, List.find?_eq_none]
      intro src _ both
      rw [Bool.and_eq_true, idle src (by simp_all)] at both
      cases both.2
    exact exec_attemptStart_idle free (by rw [selectAttempt, none])
  · obtain ⟨a, attempt⟩ := Option.isSome_iff_exists.1 busy
    exact exec_attemptStart_busy attempt
  · simp [sourceReady]
  · simp [sourceReady]
  · simp [sourceReady]
  · rw [sourceReady, Option.isSome_iff_ne_none]
  · simp only [buildFrame, buildOperator, queue, ownDigest_of_digest digest]
  · rw [buildFrame, ownDigest_of_digest digest]
  · rw [buildFrame, ownDigest_of_digest digest]
    rfl
  · exact ⟨⟨numberOf n, by simp only [numberOf]; omega⟩, rfl, by rw [buildFrame, lowestStale_eq stale lowest]; rfl⟩
  · rcases r with ⟨_ | _, requester, half⟩ <;> simp only [buildFrame, buildReply, request]
  · rw [statusBody_eq digest]
    refine ⟨rfl, rfl, ?_, ?_, rfl, rfl, rfl, rfl, rfl, rfl, rfl, rfl, rfl, rfl, ?_⟩
    · exact congrArg some (queueByte_toNat reports operations)
    · exact congrArg some (by rw [BitVec.toNat_ofNat]; omega)
    · exact congrArg some (unreportedCount_toNat s.cfg s.scanner)
  · obtain ⟨b, found, code⟩ := membersBody_code s half n k place short
    refine ⟨b, found, code.trans ((memberCode_toNat s n).trans ?_)⟩
    split
    · rfl
    · cases s.members.entries[n].state <;> rfl

end Sys2Proof.Machine
end

section
/-! PROOFS. The frames of other stations: what the moment of the membership table leaves (R40, R84, R96), and what hearing a frame does to its
sender's entry, points and context (R71 to R80). -/

namespace Sys2Proof.Machine

open Sys2Proof

/-! ## The moment of the membership table (R84, R96) -/

@[simp] theorem settleMembership_orderDisagreements (s : State) :
    (settleMembership s).members.orderDisagreements = s.members.orderDisagreements := by
  simp only [settleMembership, settle_keeps]
  rw [repairTest_members_eq]
  simp

theorem synchronise_transfer_kept (s : State) :
    (synchronise s).transfer.regionDrops = s.transfer.regionDrops ∧ (synchronise s).transfer.transferDrops = s.transfer.transferDrops := by
  rcases synchronise_cases s with ⟨-, -, -, e⟩ | e <;> rw [e]
  · rw [enterSynced_transfer]
    exact ⟨rfl, rfl⟩
  · exact ⟨rfl, rfl⟩

theorem settleMembership_transfer (s : State) : (settleMembership s).transfer = (synchronise s).transfer := by simp [settleMembership]

@[simp] theorem settleMembership_drops (s : State) :
    (settleMembership s).transfer.regionDrops = s.transfer.regionDrops
      ∧ (settleMembership s).transfer.transferDrops = s.transfer.transferDrops := by
  rw [settleMembership_transfer]
  exact synchronise_transfer_kept s

theorem settleMembership_pointHeard (s : State) : (settleMembership s).seq.pointHeard = s.seq.pointHeard := by
  rw [settleMembership_seq]
  rcases synchronise_cases s with ⟨-, -, -, e⟩ | e <;> rw [e]
  rw [enterSynced_seq]

/-- The moment moves the order count by its founding at the entry to SYNCED alone (R96, R97). -/
theorem settleMembership_count_of {s : State}
    (h : actsOn s.raised classMembership = true → anyStale s = false → foundsCount s = false) :
    (settleMembership s).seq.orderCount = s.seq.orderCount ∧ (settleMembership s).seq.countValid = s.seq.countValid := by
  rw [settleMembership_seq]
  rcases synchronise_cases s with ⟨-, acts, stale, e⟩ | e <;> rw [e]
  · rw [enterSynced_seq]
    simp [h acts stale]
  · exact ⟨rfl, rfl⟩

theorem settleMembership_count {s : State} (h : foundsCount s = false) :
    (settleMembership s).seq.orderCount = s.seq.orderCount ∧ (settleMembership s).seq.countValid = s.seq.countValid :=
  settleMembership_count_of fun _ _ => h

theorem foundsCount_of_valid {s : State} (h : s.seq.countValid = true) : foundsCount s = false := by simp [foundsCount, h]

theorem foundsCount_of_heard {s : State} (h : s.seq.pointHeard = true) : foundsCount s = false := by simp [foundsCount, h]

/-- The moment with no end of SYNCING: the transfer unit, the scanner and the sequencer are as they were. -/
theorem settleMembership_of_unsynchronised {s : State} (h : synchronise s = s) :
    (settleMembership s).transfer = s.transfer ∧ (settleMembership s).scanner = s.scanner ∧ (settleMembership s).seq = s.seq := by
  rw [settleMembership, h]
  exact ⟨by simp, by simp, by simp⟩

/-- A moment that raises no MEMBERSHIP ends no synchronisation (R96). -/
theorem synchronise_of_silent {s : State} (h : actsOn s.raised classMembership = false) : synchronise s = s := by
  rw [synchronise, if_neg]
  rintro ⟨-, acts, -⟩
  rw [h] at acts
  cases acts

theorem keepsPanel_settleMembership {s u : State} (h : u.panel = s.panel) : KeepsPanel s (settleMembership u) :=
  keepsPanel_settle (by simpa using h)

/-- The repair query flag behind a moment of the table that no restart came with. -/
theorem repairTested_settleMembership {s u : State} (ended : u.line.attempt = none) (flag : u.members.repairFlag = s.members.repairFlag)
    (timer : u.members.repairTimer = s.members.repairTimer) : RepairTested s (settleMembership u) :=
  (repairTested_repairTest (by simpa using ended) (by simpa using flag) (by simpa using timer)).settle

/-- What every frame of another station leaves alone, and the repair test behind it. -/
theorem received_keeps {s u : State} (taken : TakenFrame (listeningFrame (gapSeen s)) u) :
    FrameKeeps s (settleMembership u) ∧ RepairTested s (settleMembership u) := by
  have line : u.line = { s.line with attempt := none, drive := .recessive, awaitsGap := false } := by rw [taken.line]; rfl
  refine ⟨⟨?_, keepsPanel_settleMembership (by rw [taken.panel]; simp), ?_, by simp [taken.lamp], by simp [line], by simp [line], fun other => ?_⟩,
    repairTested_settleMembership (by simp [line]) (by rw [taken.repairFlag]; simp) (by rw [taken.repairTimer]; simp)⟩
  · simp [KeepsSetup, taken.loader, taken.hold, taken.pins, taken.cfg, taken.pending]
  · simp [KeepsCounts, line]
  · have still : synchronise u = u := synchronise_of_ne (by simpa [taken.lineState] using other)
    obtain ⟨-, scanner, seq⟩ := settleMembership_of_unsynchronised still
    rw [scanner, seq, taken.scanner, taken.lineState, taken.listenTimer, taken.syncTimer, taken.joinPending, taken.joinReason]
    simp

/-- With the station not SYNCING the job, the slot and the order count are as the frame's taking left them. -/
theorem settleMembership_of_other {s u : State} (taken : TakenFrame (listeningFrame (gapSeen s)) u) (other : s.seq.state ≠ .syncing) :
    (settleMembership u).transfer = u.transfer ∧ (settleMembership u).seq = u.seq := by
  obtain ⟨transfer, -, seq⟩ := settleMembership_of_unsynchronised (synchronise_of_ne (s := u) (by simpa [taken.lineState] using other))
  exact ⟨transfer, seq⟩

/-! ## What hearing a frame does (R71 to R80) -/

@[simp] theorem hear_orderDisagreements (f : StationField) (h : Heard) (o : DigestOutcome) (d : Option Word) (s : State) :
    (hear f h o d s).members.orderDisagreements = s.members.orderDisagreements := by
  rcases hear_cases f h o d s with e | ⟨n, -, -, e⟩ <;> rw [e]
  simp

/-- The entries behind a frame heard (R71, R72). -/
theorem hear_entries {s : State} {f : StationField} {n : Station} (hf : stationOfField f = some n) (hn : s.cfg.self ≠ some n) (h : Heard)
    (o : DigestOutcome) (d : Option Word) :
    (hear f h o d s).members.entries
      = s.members.entries.set n
          { state := nextMember h o s.members.entries[n].state, ageMs := 0, lastDigest := d.or s.members.entries[n].lastDigest } := by
  rw [hear_entry hf h o d s hn, moveEntry_entries]

/-- An entry written is held behind the moment, and every other is as it was. -/
theorem entry_of_set {s u : State} {n : Station} {e : MemberEntry} (h : u.members.entries = s.members.entries.set n e) :
    (settleMembership u).members.entries[n] = e ∧ KeepsOtherEntries n s (settleMembership u) := by
  refine ⟨by rw [settleMembership_entries, h]; exact set_get_self .., fun m hm => ?_⟩
  rw [settleMembership_entries, h]
  exact set_get_other _ _ _ _ hm

/-- The sender's entry behind a frame heard (R71, R72). -/
theorem hear_entry_self {s : State} {f : StationField} {n : Station} (hf : stationOfField f = some n) (hn : s.cfg.self ≠ some n) (h : Heard)
    (o : DigestOutcome) (d : Option Word) :
    (hear f h o d s).members.entries[n]
      = { state := nextMember h o s.members.entries[n].state, ageMs := 0, lastDigest := d.or s.members.entries[n].lastDigest } := by
  rw [hear_entry hf h o d s hn, moveEntry_entries]
  exact set_get_self ..

theorem moveEntry_raised (n : Station) (e : MemberEntry) (s : State) :
    (moveEntry n e s).raised = s.raised ||| (if e.state = s.members.entries[n].state then 0 else classMembership) := by
  unfold moveEntry
  split <;> [skip; split] <;> simp [raise]

/-- MEMBERSHIP is raised by a frame that moves its sender's entry (R80). -/
theorem hear_raised_self {s : State} {f : StationField} {n : Station} (hf : stationOfField f = some n) (hn : s.cfg.self ≠ some n) (h : Heard)
    (o : DigestOutcome) (d : Option Word) :
    (hear f h o d s).raised
      = s.raised ||| (if nextMember h o s.members.entries[n].state = s.members.entries[n].state then 0 else classMembership) := by
  rw [hear_entry hf h o d s hn, moveEntry_raised]

/-- A move of an entry that is no loss keeps the points and the transfers (R79). -/
theorem hear_kept {s : State} {f : StationField} {h : Heard} {o : DigestOutcome} {d : Option Word}
    (kept : ∀ m : MemberState, isLoss (nextMember h o m) = true → nextMember h o m = m) :
    (hear f h o d s).points = s.points ∧ (hear f h o d s).transfer = s.transfer := by
  rcases hear_cases f h o d s with e | ⟨n, -, -, e⟩ <;> rw [e]
  · exact ⟨rfl, rfl⟩
  · have none : ¬ (nextMember h o s.members.entries[n].state ≠ s.members.entries[n].state
        ∧ (nextMember h o s.members.entries[n].state = .absent ∨ nextMember h o s.members.entries[n].state = .mismatch)) :=
      fun ⟨moved, lost⟩ => moved (kept _ ((isLoss_iff _).2 lost))
    rw [moveEntry_points, moveEntry_transfer, if_neg none, if_neg none]
    exact ⟨rfl, rfl⟩

/-- The loss of a station, point by point (R79). -/
theorem loseOwner_get_other {cfg : Configuration} {n : Station} (other : cfg.self ≠ some n) (records : Records) (p : PointIndex) :
    (loseOwner cfg n records)[p] = if cfg.points[p].owner = some n then lose records[p] else records[p] := by
  rw [loseOwner_get]
  by_cases owner : cfg.points[p].owner = some n
  · rw [if_pos owner, (ownedBy_iff cfg n p).2 owner, isOwn_of_other owner other]
    rfl
  · have foreign : ownedBy cfg n p = false := by rw [Bool.eq_false_iff, ne_eq, ownedBy_iff]; exact owner
    rw [if_neg owner, foreign]
    rfl

/-- A frame of another digest loses its sender, unless it was MISMATCH (R73 to R75, R79). -/
theorem hear_differs {s : State} {f : StationField} {n : Station} (hf : stationOfField f = some n) (hn : s.cfg.self ≠ some n) {h : Heard}
    (mismatch : ∀ m : MemberState, nextMember h .differs m = .mismatch) (d : Word) :
    (hear f h .differs (some d) s).members.entries[n] = { state := .mismatch, ageMs := 0, lastDigest := some d }
      ∧ (s.members.entries[n].state = .mismatch →
          (hear f h .differs (some d) s).points = s.points ∧ (hear f h .differs (some d) s).transfer = s.transfer)
      ∧ (s.members.entries[n].state ≠ .mismatch →
          LosesPointsOf n s (hear f h .differs (some d) s)
            ∧ (hear f h .differs (some d) s).transfer = { s.transfer with contexts := s.transfer.contexts.set n none }) := by
  refine ⟨by rw [hear_entry_self hf hn, mismatch]; rfl, fun was => ?_, fun was => ?_⟩ <;> rw [hear_entry hf _ _ _ _ hn, mismatch]
  · have none : ¬ (MemberState.mismatch ≠ s.members.entries[n].state ∧ (MemberState.mismatch = .absent ∨ MemberState.mismatch = .mismatch)) :=
      fun ⟨moved, _⟩ => moved was.symm
    rw [moveEntry_points, moveEntry_transfer, if_neg none, if_neg none]
    exact ⟨rfl, rfl⟩
  · have lost : MemberState.mismatch ≠ s.members.entries[n].state ∧ (MemberState.mismatch = .absent ∨ MemberState.mismatch = .mismatch) :=
      ⟨was.symm, .inr rfl⟩
    refine ⟨fun p => ?_, by rw [moveEntry_transfer, if_pos lost]⟩
    rw [moveEntry_points, if_pos lost]
    exact loseOwner_get_other hn s.points p

/-- Every entry behind a frame of a sender that is not the station itself (R71, R72). -/
theorem hear_entry_get {s : State} {f : StationField} (other : ∀ n, stationOfField f = some n → s.cfg.self ≠ some n) (h : Heard)
    (o : DigestOutcome) (d : Option Word) (n : Station) :
    (hear f h o d s).members.entries[n]
      = if stationOfField f = some n then
          { state := nextMember h o s.members.entries[n].state, ageMs := 0, lastDigest := d.or s.members.entries[n].lastDigest }
        else s.members.entries[n] := by
  split
  · next hf => exact hear_entry_self hf (other n hf) h o d
  · next hf => exact hear_other_entry hf h o d

theorem hear_other_context {s : State} {f : StationField} {m : Station} (hf : stationOfField f ≠ some m) (h : Heard) (o : DigestOutcome)
    (d : Option Word) : (hear f h o d s).transfer.contexts[m] = s.transfer.contexts[m] := by
  rcases hear_cases f h o d s with e | ⟨n, signed, -, e⟩ <;> rw [e]
  rw [moveEntry_transfer]
  split
  · exact set_get_other _ _ _ _ fun e => hf (by rw [signed, e])
  · rfl

/-- Hearing a frame closes contexts and moves nothing else of the transfer unit (R79). -/
theorem hear_transfer (f : StationField) (h : Heard) (o : DigestOutcome) (d : Option Word) (s : State) :
    (hear f h o d s).transfer = { s.transfer with contexts := (hear f h o d s).transfer.contexts } := by
  rcases hear_cases f h o d s with e | ⟨n, -, -, e⟩ <;> rw [e]
  rw [moveEntry_transfer]
  split <;> rfl

theorem hear_raised (f : StationField) (h : Heard) (o : DigestOutcome) (d : Option Word) (s : State) :
    (hear f h o d s).raised = s.raised ∨ (hear f h o d s).raised = s.raised ||| classMembership := by
  rcases hear_cases f h o d s with e | ⟨n, -, -, e⟩ <;> rw [e]
  · exact .inl rfl
  · rw [moveEntry_raised]
    split
    · exact .inl BitVec.or_zero
    · exact .inr rfl

theorem digestMatches_eq {s : State} {d : Word} (digest : s.loader.digest = some d) (carried : Word) :
    digestMatches s carried = decide (carried = d) := by
  rw [Bool.eq_iff_iff, digestMatches, digest, beq_iff_eq, Option.some.injEq, decide_eq_true_iff, eq_comm]

/-- The judgement of a carried digest (R71). -/
theorem judgeDigest_eq {s : State} {d : Word} (digest : s.loader.digest = some d) (carried : Word) :
    judgeDigest s carried = if carried = d then .same else .differs := by
  rw [judgeDigest, digestMatches_eq digest]
  by_cases h : carried = d <;> simp [h]

end Sys2Proof.Machine
end

section
/-! PROOFS. POINT, OPERATOR and JOIN frames of other stations (R16, R18, R19, R73, R75, R79, R95). -/

namespace Sys2Proof.Machine

open Sys2Proof

/-! ## Common to the frames of other stations -/

/-- A station at the end of a frame it hears, before the frame's content is taken. -/
abbrev frameStart (s : State) : State := listeningFrame (gapSeen s)

/-- A frame that carries a content the layouts allow, by the state that its taking leaves. -/
theorem exec_content {c : Instr} {heading : FrameHeading} {content : FrameContent} {s u : State}
    (frame : deliveredFrame c = some (classOf content, heading, buildPayload content)) (fits : contentFits content = true)
    (heard : hears heading.gap s = true) (other : ownField s ≠ some heading.sender)
    (taken : takeContent heading.sender content (frameStart s) = u) : exec c s = .next (settleMembership u) := by
  rw [exec_received frame heard other, takePayload_of_read (readPayload_buildPayload fits), taken]

/-- The entries behind a frame of station `n` that was heard. -/
theorem entry_of_hear {s v u : State} {n : Station} {h : Heard} {o : DigestOutcome} {d : Option Word} (other : s.cfg.self ≠ some n)
    (cfg : v.cfg = s.cfg) (entries : v.members.entries = s.members.entries)
    (u_entries : u.members.entries = (hear (fieldOf n) h o d v).members.entries) :
    (settleMembership u).members.entries[n]
        = { state := nextMember h o s.members.entries[n].state, ageMs := 0, lastDigest := d.or s.members.entries[n].lastDigest }
      ∧ KeepsOtherEntries n s (settleMembership u) := by
  refine entry_of_set ?_
  rw [u_entries, hear_entries (stationOfField_fieldOf n) (by rw [cfg]; exact other)]
  simp only [entries]

/-- A matching POINT, OPERATOR or START frame takes an ABSENT or MISMATCH sender to STALE (R75). -/
theorem staleIfLost_eq (m : MemberState) : staleIfLost m = if m = .absent ∨ m = .mismatch then .stale else m := by
  cases m <;> rfl

theorem staleIfLost_eq_self (m : MemberState) :
    (if staleIfLost m = m then (0 : Byte) else classMembership) = if m = .absent ∨ m = .mismatch then classMembership else 0 := by
  cases m <;> rfl

/-- What a frame of another digest leaves of its sender's entry and points, and of its context. -/
theorem received_differs {s v : State} {n : Station} (hn : s.cfg.self ≠ some n) {h : Heard}
    (mismatch : ∀ m : MemberState, nextMember h .differs m = .mismatch) (d : Word) (cfg : v.cfg = s.cfg)
    (points : v.points = s.points) (entries : v.members.entries = s.members.entries) {u : State}
    (u_points : u.points = (hear (fieldOf n) h .differs (some d) v).points)
    (u_entries : u.members.entries = (hear (fieldOf n) h .differs (some d) v).members.entries)
    (u_contexts : u.transfer.contexts = (hear (fieldOf n) h .differs (some d) v).transfer.contexts) :
    (settleMembership u).members.entries[n] = { state := .mismatch, ageMs := 0, lastDigest := some d }
      ∧ (s.members.entries[n].state = .mismatch → (settleMembership u).points = s.points)
      ∧ (s.members.entries[n].state ≠ .mismatch →
          LosesPointsOf n s (settleMembership u) ∧ (settleMembership u).transfer.contexts[n] = none) := by
  obtain ⟨entry, known, lost⟩ := hear_differs (s := v) (stationOfField_fieldOf n) (by rw [cfg]; exact hn) mismatch d
  rw [entries, points] at known
  rw [entries] at lost
  rw [settleMembership_entries, u_entries, settleMembership_contexts, u_contexts]
  have t_points : (settleMembership u).points = (hear (fieldOf n) h .differs (some d) v).points := by simpa using u_points
  refine ⟨entry, fun was => by rw [t_points, (known was).1], fun was => ⟨fun p => ?_, ?_⟩⟩
  · have lostPoint := (lost was).1 p
    rwa [points, cfg, ← t_points] at lostPoint
  · rw [(lost was).2]
    exact set_get_self ..

/-! ## POINT frames (R16, R18) -/

/-- A POINT frame that meets the three conditions of R16 and the check of R18. -/
theorem takePoint_written {s : State} {n : Station} {p : PointIndex} {w : WireRecord} {r : PointRecord} {d : Word}
    (other : s.cfg.self ≠ some n) (digest : s.loader.digest = some d) (owner : s.cfg.points[p].owner = some n) (wire : recordOfWire w = some r) :
    (takePoint (fieldOf n) p w d s).points = writeRecord s.cfg s.points p r
      ∧ (takePoint (fieldOf n) p w d s).seq
          = { s.seq with orderCount := if s.seq.countValid then s.seq.orderCount + 1 else s.seq.orderCount, pointHeard := true }
      ∧ (takePoint (fieldOf n) p w d s).transfer = s.transfer
      ∧ (takePoint (fieldOf n) p w d s).members.orderDisagreements = s.members.orderDisagreements
      ∧ (takePoint (fieldOf n) p w d s).members.entries
          = s.members.entries.set n { state := staleIfLost s.members.entries[n].state, ageMs := 0, lastDigest := some d }
      ∧ (takePoint (fieldOf n) p w d s).raised
          = s.raised ||| (if staleIfLost s.members.entries[n].state = s.members.entries[n].state then 0 else classMembership)
              ||| alertClasses s.cfg p s.points[p].state r.state := by
  have same : judgeDigest s d = .same := by rw [judgeDigest_eq digest, if_pos rfl]
  have owned : ownedBy s.cfg n p = true := (ownedBy_iff s.cfg n p).2 owner
  have taken : takePoint (fieldOf n) p w d s
      = raise (alertClasses s.cfg p s.points[p].state r.state)
          ((hear (fieldOf n) .pointOrOperator .same (some d) (countPoint s)).setPoints (writeRecord s.cfg s.points p r)) := by
    simp only [takePoint, writePoint, stationOfField_fieldOf, same, digestMatches, hear_keeps, countPoint_keeps, digest, owned, wire,
      beq_self_eq_true, Bool.and_self, if_true, hear_same_points]
  have kept := hear_kept (s := countPoint s) (f := fieldOf n) (h := .pointOrOperator) (o := .same) (d := some d)
    fun m lost => by simp [nextMember, staleIfLost_not_loss] at lost
  have heard := hear_raised_self (s := countPoint s) (stationOfField_fieldOf n) (by simpa using other) .pointOrOperator .same (some d)
  have entries := hear_entries (s := countPoint s) (stationOfField_fieldOf n) (by simpa using other) .pointOrOperator .same (some d)
  rw [taken]
  exact ⟨rfl, by simp [countPoint], by simp [kept], by simp, entries, congrArg (· ||| alertClasses s.cfg p s.points[p].state r.state) heard⟩

/-- A POINT frame that meets them not is only counted and heard. -/
theorem takePoint_unwritten {s : State} {n : Station} {p : PointIndex} {w : WireRecord} {d carried : Word} (digest : s.loader.digest = some d)
    (refused : carried ≠ d ∨ s.cfg.points[p].owner ≠ some n ∨ recordOfWire w = none) :
    takePoint (fieldOf n) p w carried s = hear (fieldOf n) .pointOrOperator (judgeDigest s carried) (some carried) (countPoint s) := by
  rw [takePoint]
  rcases writePoint_cases (fieldOf n) p w carried (hear (fieldOf n) .pointOrOperator (judgeDigest s carried) (some carried) (countPoint s))
    with ⟨m, r, signed, same, owner, wire, -⟩ | e
  · rw [stationOfField_fieldOf, Option.some.injEq] at signed
    rw [digestMatches_hear, digestMatches_countPoint, digestMatches_eq digest, decide_eq_true_iff] at same
    simp only [hear_keeps, countPoint_keeps, ← signed] at owner
    rcases refused with foreign | alien | unreadable
    · exact absurd same foreign
    · exact absurd owner alien
    · rw [unreadable] at wire
      cases wire
  · exact e

theorem recordOfWire_eq_none {w : WireRecord} (h : w.code = 5 ∨ w.code = 6 ∨ w.code = 7) : recordOfWire w = none := by
  rcases h with e | e | e <;> rw [recordOfWire, e] <;> rfl

/-- Settles O26: `takePoint_written` at the end of the frame. -/
theorem pointFrameIsWritten : Obligations.PointFrameIsWritten := by
  intro s gap n p w r d heard other digest owner wire
  obtain ⟨u, hu⟩ : ∃ u, takePoint (fieldOf n) p w d (frameStart s) = u := ⟨_, rfl⟩
  have taken : TakenFrame (frameStart s) u := hu ▸ takenFrame_takePoint ..
  have written := takePoint_written (s := frameStart s) (by simpa using other) (by simpa using digest) (by simpa using owner) wire
  rw [hu] at written
  simp only [listeningFrame_keeps, gapSeen_keeps, listeningFrame_raised] at written
  obtain ⟨points, seq, transfer, disagreements, entries, raised⟩ := written
  obtain ⟨kept, tested⟩ := received_keeps taken
  obtain ⟨entry, others⟩ := entry_of_set entries
  have count := settleMembership_count (s := u) (foundsCount_of_heard (by rw [seq]))
  rw [staleIfLost_eq] at entry
  refine ⟨settleMembership u, exec_content (heading := ⟨gap, fieldOf n⟩) (content := .point p w d) rfl rfl heard (ownField_ne other) hu,
    by simp [points], by rw [count.1, seq], by rw [count.2, seq], by rw [settleMembership_pointHeard, seq], entry, others,
    by simp [disagreements], ?_, fun still => ?_, by simp [← hu, takePoint], kept, tested⟩
  · have t_raised : (settleMembership u).raised = u.raised := by simp
    rw [t_raised, raised, staleIfLost_eq_self]
    exact congrArg (· ||| _) BitVec.zero_or
  · rw [(settleMembership_of_other taken still).1, transfer]

/-- Settles O27: `takePoint_unwritten` at the end of the frame. -/
theorem unwrittenPointFrameStillCounts : Obligations.UnwrittenPointFrameStillCounts := by
  intro s gap n p w d carried heard other digest refused
  obtain ⟨u, hu⟩ : ∃ u, takePoint (fieldOf n) p w carried (frameStart s) = u := ⟨_, rfl⟩
  have taken : TakenFrame (frameStart s) u := hu ▸ takenFrame_takePoint ..
  obtain ⟨kept, tested⟩ := received_keeps taken
  have unwritten : u = hear (fieldOf n) .pointOrOperator (judgeDigest s carried) (some carried) (countPoint (frameStart s)) := by
    rw [← hu, takePoint_unwritten (d := d) (by simpa using digest)]
    · simp [judgeDigest, digestMatches]
    · refine refused.imp_right fun h => ?_
      rcases h with alien | code
      · exact .inl (by simpa using alien)
      · exact .inr (recordOfWire_eq_none code)
  have seq : u.seq
      = { s.seq with orderCount := if s.seq.countValid then s.seq.orderCount + 1 else s.seq.orderCount, pointHeard := true } := by
    rw [unwritten]
    simp [countPoint]
  obtain ⟨entry, others⟩ := entry_of_hear (v := countPoint (frameStart s)) other (by simp) (by simp) (congrArg (·.members.entries) unwritten)
  have count := settleMembership_count (s := u) (foundsCount_of_heard (by rw [seq]))
  refine ⟨settleMembership u, exec_content (heading := ⟨gap, fieldOf n⟩) (content := .point p w carried) rfl rfl heard (ownField_ne other) hu,
    by rw [settleMembership_pointHeard, seq], others, by simp [← hu, takePoint], kept, tested, by rw [count.1, seq], by rw [count.2, seq],
    fun same => ?_, fun foreign => ?_⟩
  · subst same
    rw [judgeDigest_eq digest, if_pos rfl] at unwritten entry
    rw [nextMember, staleIfLost_eq] at entry
    exact ⟨by simp [unwritten, hear_same_points], entry⟩
  · rw [judgeDigest_eq digest, if_neg foreign] at unwritten
    exact received_differs other (fun m => rfl) carried (v := countPoint (frameStart s)) (by simp) (by simp) (by simp) (by rw [unwritten])
      (by rw [unwritten]) (by rw [unwritten])

/-! ## OPERATOR frames (R19) -/

/-- An OPERATOR frame of another digest loses its sender, if it is numbered, and moves no other point (R79). -/
theorem hear_differs_get {s : State} {f : StationField} (other : ∀ n, stationOfField f = some n → s.cfg.self ≠ some n) {h : Heard}
    (mismatch : ∀ m : MemberState, nextMember h .differs m = .mismatch) (d : Word) :
    (∀ n : Station,
        (hear f h .differs (some d) s).transfer.contexts[n]
          = if stationOfField f = some n ∧ s.members.entries[n].state ≠ .mismatch then none else s.transfer.contexts[n])
      ∧ ∀ p : PointIndex,
          (hear f h .differs (some d) s).points[p]
            = if (∃ n : Station, stationOfField f = some n ∧ s.cfg.points[p].owner = some n ∧ s.members.entries[n].state ≠ .mismatch) then
                lose s.points[p]
              else s.points[p] := by
  cases hf : stationOfField f with
  | none =>
    rw [hear_unnumbered hf]
    simp
  | some m =>
    obtain ⟨-, known, lost⟩ := hear_differs hf (other m hf) mismatch d
    by_cases was : s.members.entries[m].state = .mismatch
    · rw [(known was).1, (known was).2]
      refine ⟨fun n => (if_neg ?_).symm, fun p => (if_neg ?_).symm⟩
      · rintro ⟨e, unknown⟩
        cases e
        exact unknown was
      · rintro ⟨n, e, -, unknown⟩
        cases e
        exact unknown was
    · obtain ⟨points, transfer⟩ := lost was
      refine ⟨fun n => ?_, fun p => ?_⟩
      · rw [transfer]
        by_cases e : m = n
        · subst e
          rw [if_pos ⟨rfl, was⟩]
          exact set_get_self ..
        · rw [if_neg (fun h => e (Option.some.inj h.1))]
          exact set_get_other _ _ _ _ (Ne.symm e)
      · rw [points p]
        by_cases owner : s.cfg.points[p].owner = some m
        · rw [if_pos owner, if_pos ⟨m, rfl, owner, was⟩]
        · rw [if_neg owner, if_neg]
          rintro ⟨n, e, owner', -⟩
          cases e
          exact owner owner'

/-- Settles O28: the digest decides, whatever the sender's entry. -/
theorem operatorFrameIsAppliedByDigestAlone : Obligations.OperatorFrameIsAppliedByDigestAlone := by
  intro s gap f op groups horizon d carried heard other digest
  obtain ⟨u, hu⟩ : ∃ u, takeOperator f op groups horizon carried (frameStart s) = u := ⟨_, rfl⟩
  have taken : TakenFrame (frameStart s) u := hu ▸ takenFrame_takeOperator ..
  obtain ⟨kept, tested⟩ := received_keeps taken
  have alien : ∀ n, stationOfField f = some n → (frameStart s).cfg.self ≠ some n := fun n hf => by simpa using other_of_ownField other n hf
  rw [takeOperator, digestMatches_eq (d := d) (by simpa using digest)] at hu
  have still (h : s.seq.state ≠ .syncing) := settleMembership_of_other taken h
  have moved : u.transfer = { s.transfer with contexts := u.transfer.contexts } ∧ u.seq = s.seq ∧ u.responder = s.responder
      ∧ u.members.orderDisagreements = s.members.orderDisagreements := by
    rw [← hu]
    split <;> refine ⟨?_, by simp, by simp, by simp⟩
    · exact hear_transfer f .pointOrOperator .same (some carried) (frameStart s)
    · exact hear_transfer f .pointOrOperator .differs (some carried) (frameStart s)
  obtain ⟨transfer, seq, responder, disagreements⟩ := moved
  refine ⟨settleMembership u, exec_content (heading := ⟨gap, f⟩) (content := .operator op groups horizon carried) rfl rfl heard other
    (by rw [← hu, takeContent, takeOperator, digestMatches_eq (d := d) (by simpa using digest)]), by simpa using responder, kept, tested,
    by rw [(settleMembership_drops u).2, transfer], by simpa using disagreements, fun other => ?_, fun same => ?_, fun same => ?_, fun foreign => ?_⟩
  · rw [KeepsJob, KeepsOrder, (still other).1, (still other).2, transfer, seq]
    exact ⟨⟨rfl, rfl, rfl⟩, rfl, rfl, rfl⟩
  · subst same
    rw [if_pos (decide_eq_true rfl)] at hu
    refine ⟨fun p => ?_, ?_, fun n => ?_⟩
    · have points : (settleMembership u).points = operateGroups s.cfg op groups horizon s.points := by
        simp [← hu, hear_same_points]
      rw [points]
      exact operateGroups_get ..
    · have raised : (settleMembership u).raised = (hear f .pointOrOperator .same (some carried) (frameStart s)).raised ||| classOperatorAny := by
        simp [← hu, raise]
      rw [raised]
      rcases hear_raised f .pointOrOperator .same (some carried) (frameStart s) with e | e <;> rw [e, listeningFrame_raised] <;> rfl
    · rw [settleMembership_entries, ← hu]
      have entry := hear_entry_get alien .pointOrOperator .same (some carried) n
      rw [nextMember, staleIfLost_eq] at entry
      exact entry
  · subst same
    rw [if_pos (decide_eq_true rfl)] at hu
    rw [settleMembership_contexts, ← hu]
    have kept := (hear_kept (s := frameStart s) (f := f) (h := .pointOrOperator) (o := .same) (d := some carried)
      fun m lost => by simp [nextMember, staleIfLost_not_loss] at lost).2
    simp [kept]
  · rw [if_neg (by simpa using foreign)] at hu
    obtain ⟨contexts, points⟩ := hear_differs_get alien (h := .pointOrOperator) (fun m => rfl) carried
    refine ⟨?_, fun n => ?_, fun n => ?_, fun p => ?_⟩
    · have raised : (settleMembership u).raised = (hear f .pointOrOperator .differs (some carried) (frameStart s)).raised := by simp [← hu]
      rw [raised]
      rcases hear_raised f .pointOrOperator .differs (some carried) (frameStart s) with e | e <;> rw [e, listeningFrame_raised] <;> rfl
    · rw [settleMembership_entries, ← hu]
      exact hear_entry_get alien .pointOrOperator .differs (some carried) n
    · rw [settleMembership_contexts, ← hu]
      exact contexts n
    · have t_points : (settleMembership u).points = u.points := by simp
      rw [t_points, ← hu]
      exact points p

/-! ## JOIN frames (R73, R95) -/

/-- The responder rule (R95). -/
theorem answerJoin_eq {s : State} {n : Station} {d : Word} (digest : s.loader.digest = some d) (carried : Word) :
    answerJoin (fieldOf n) carried s = if s.seq.state = .synced ∧ carried = d then restartWholeGrid s else s := by
  simp only [answerJoin, digestMatches_eq digest, stationOfField_fieldOf, Option.isSome_some, and_true, decide_eq_true_eq]

/-- Settles O29: the answer, and behind it the hearing. -/
theorem joinFrameMovesItsSenderAndIsAnswered : Obligations.JoinFrameMovesItsSenderAndIsAnswered := by
  intro s gap n reason d carried heard other digest
  obtain ⟨v, hv⟩ : ∃ v, answerJoin (fieldOf n) carried (frameStart s) = v := ⟨_, rfl⟩
  obtain ⟨u, hu⟩ : ∃ u, takeJoin (fieldOf n) carried (frameStart s) = u := ⟨_, rfl⟩
  have taken : TakenFrame (frameStart s) u := hu ▸ takenFrame_takeJoin ..
  obtain ⟨kept, tested⟩ := received_keeps taken
  have still (h : s.seq.state ≠ .syncing) := settleMembership_of_other taken h
  have heardFrom : u = hear (fieldOf n) .join (judgeDigest s carried) (some carried) v := by
    rw [← hu, takeJoin, hv]
    simp [judgeDigest, digestMatches]
  rw [answerJoin_eq (d := d) (by simpa using digest)] at hv
  have answered : v.cfg = s.cfg ∧ v.points = s.points ∧ v.members = s.members ∧ v.seq = s.seq ∧ v.responder = s.responder
      ∧ v.transfer.contexts = s.transfer.contexts ∧ v.transfer.regionDrops = s.transfer.regionDrops
      ∧ v.transfer.transferDrops = s.transfer.transferDrops := by
    rw [← hv]
    split <;> exact ⟨rfl, rfl, rfl, rfl, rfl, rfl, rfl, rfl⟩
  obtain ⟨cfg, points, members, seq, responder, contexts, regionDrops, transferDrops⟩ := answered
  have transfer : u.transfer = { v.transfer with contexts := u.transfer.contexts } := by rw [heardFrom]; exact hear_transfer ..
  obtain ⟨entry, others⟩ := entry_of_hear other cfg (by rw [members]) (congrArg (·.members.entries) heardFrom)
  refine ⟨settleMembership u, exec_content (heading := ⟨gap, fieldOf n⟩) (content := .join carried reason) rfl rfl heard (ownField_ne other) hu,
    others, by simp [heardFrom, responder], kept, tested, by rw [(settleMembership_drops u).1, transfer, regionDrops],
    by rw [(settleMembership_drops u).2, transfer, transferDrops], fun unsynced => ?_, fun same => ?_, fun foreign => ?_⟩
  · rw [KeepsOrder, (still unsynced).2, heardFrom, (hear_keeps ..).2.2.2.2.2.1, seq]
    exact ⟨rfl, rfl, rfl⟩
  · subst same
    rw [judgeDigest_eq digest, if_pos rfl] at heardFrom entry
    obtain ⟨keptPoints, keptTransfer⟩ := hear_kept (s := v) (f := fieldOf n) (h := .join) (o := .same) (d := some carried) nofun
    rw [← heardFrom] at keptPoints keptTransfer
    refine ⟨entry, by simp [keptPoints, points], by rw [settleMembership_contexts, keptTransfer, contexts], fun synced => ?_,
        fun unsynced listening => ?_⟩
    · rw [(still (by rw [synced]; nofun)).1, keptTransfer, ← hv, if_pos ⟨by simpa using synced, rfl⟩]
      exact ⟨rfl, rfl⟩
    · rw [(still listening).1, keptTransfer, ← hv, if_neg (fun h => unsynced (by simpa using h.1))]
      simp
  · rw [if_neg (fun h => foreign h.2)] at hv
    rw [judgeDigest_eq digest, if_neg foreign] at heardFrom
    have lost := received_differs other (h := .join) (fun m => rfl) carried cfg points (by rw [members]) (congrArg (·.points) heardFrom)
      (congrArg (·.members.entries) heardFrom) (congrArg (·.transfer.contexts) heardFrom)
    refine ⟨lost.1, fun unsynced => ?_, lost.2.1, lost.2.2⟩
    rw [KeepsJob, (still unsynced).1, transfer, ← hv]
    simp

end Sys2Proof.Machine
end

section
/-! PROOFS. SNAPSHOT and PRESENCE frames of other stations (R74 to R76, R82, R83, R109 to R112). -/

namespace Sys2Proof.Machine

open Sys2Proof

/-! ## Windows and order counts -/

/-- A station's points in a window, in row-major order (R104, R110). -/
theorem pointsInWindow_some (cfg : Configuration) (n : Station) (w : Window) :
    pointsInWindow cfg (some n) w = allPoints.filter fun p => cfg.points[p].owner == some n && inWindow w p := by
  have owned (owner : Option Station) : (owner.isSome && owner == some n) = (owner == some n) := by
    cases owner <;> simp
  simp only [pointsInWindow, configRows_eq_map, List.filter_map, Function.comp_def, List.map_map, owned, List.map_id']

theorem pointsFrom_some (cfg : Configuration) (n : Station) (w : Window) (c : PointIndex) :
    pointsFrom cfg (some n) w (some c) = allPoints.filter fun p => cfg.points[p].owner == some n && inWindow w p && c ≤ p := by
  simp only [pointsFrom, pointsInWindow_some, List.filter_filter]
  congr 1
  funext p
  exact Bool.and_comm _ _

/-- Adoption (R82), and when there is none. -/
theorem adoptCount_adopts {s : State} {d : Word} (digest : s.loader.digest = some d) (invalid : s.seq.countValid = false) (n : Station)
    (count : Word) : adoptCount (fieldOf n) d (some count) s = s.setSeq { s.seq with orderCount := count, countValid := true } := by
  rw [adoptCount, if_pos (by simp [invalid, digestMatches, digest])]

theorem adoptCount_kept {s : State} {f : StationField} {carried : Word} {count : Option Word}
    (h : s.seq.countValid = true ∨ count = none ∨ digestMatches s carried = false) : adoptCount f carried count s = s := by
  unfold adoptCount
  split
  · rfl
  · next c =>
    rw [if_neg]
    rcases h with h | h | h
    · simp [h]
    · cases h
    · simp [h]

/-- An adopted count is kept by the entry to SYNCED that the same frame brings (assumption 7), and so is a valid one. -/
theorem adoptCount_settled {s v : State} {d : Word} (digest : v.loader.digest = some d) (seq : v.seq = s.seq) (n : Station)
    (count : Option Word) :
    (s.seq.countValid = false → ∀ c : Word, count = some c →
        (settleMembership (adoptCount (fieldOf n) d count v)).seq.orderCount = c
          ∧ (settleMembership (adoptCount (fieldOf n) d count v)).seq.countValid = true)
      ∧ (s.seq.countValid = true →
        (settleMembership (adoptCount (fieldOf n) d count v)).seq.orderCount = s.seq.orderCount
          ∧ (settleMembership (adoptCount (fieldOf n) d count v)).seq.countValid = true) := by
  refine ⟨fun invalid c e => ?_, fun valid => ?_⟩
  · subst e
    rw [adoptCount_adopts digest (by rw [seq]; exact invalid)]
    exact settleMembership_count (foundsCount_of_valid rfl)
  · rw [adoptCount_kept (.inl (by rw [seq]; exact valid)), ← seq]
    have count := settleMembership_count (s := v) (foundsCount_of_valid (by rw [seq]; exact valid))
    exact ⟨count.1, count.2.trans (by rw [seq]; exact valid)⟩

/-! ## START (R75, R110) -/

theorem contextOfStart_eq (cfg : Configuration) (n : Station) (w : Window) (total : Nat) (same : Bool) :
    contextOfStart cfg n w total same
      = if same = true ∧ total ≠ 0 then
          some { window := w, fullWindow := w == wholeGrid
                 cursor := (allPoints.filter fun p => cfg.points[p].owner == some n && inWindow w p).head?
                 expectedPart := 1, remaining := total }
        else none := by
  rw [contextOfStart, pointsInWindow_some]

theorem nextMember_start (w : Window) (total : Nat) (m : MemberState) :
    nextMember (.start (w == wholeGrid && total == 0)) .same m
      = if w = wholeGrid ∧ total = 0 then .present else if m = .absent ∨ m = .mismatch then .stale else m := by
  by_cases complete : w = wholeGrid ∧ total = 0
  · simp [complete, nextMember]
  · have incomplete : (w == wholeGrid && total == 0) = false := by
      rw [Bool.eq_false_iff, ne_eq, Bool.and_eq_true, beq_iff_eq, beq_iff_eq]
      exact complete
    rw [incomplete, if_neg complete]
    exact staleIfLost_eq m

theorem nextMember_start_cases (complete : Bool) (m : MemberState) :
    nextMember (.start complete) .same m = m ∨ nextMember (.start complete) .same m = .present
      ∨ nextMember (.start complete) .same m = .stale := by
  cases complete <;> cases m <;> decide

/-- A START that moves its sender's entry leaves the sender STALE or PRESENT, so no count is founded behind it (R97). -/
theorem start_founds_none {s u : State} {n : Station} (other : s.cfg.self ≠ some n) (cfg : u.cfg = s.cfg) {complete : Bool}
    (entry : u.members.entries[n].state = nextMember (.start complete) .same s.members.entries[n].state)
    (raised : u.raised = if nextMember (.start complete) .same s.members.entries[n].state = s.members.entries[n].state then 0 else classMembership)
    (acts : actsOn u.raised classMembership = true) (stale : anyStale u = false) : foundsCount u = false := by
  rw [Bool.eq_false_iff, ne_eq, foundsCount_iff]
  rintro ⟨-, -, -, absent⟩
  have notPresent : u.members.entries[n].state ≠ .present := by
    intro e
    have present : isPresent u n = false := absent n
    simp [isPresent, -Fin.getElem_fin, cfg, other, e] at present
  have notStale : u.members.entries[n].state ≠ .stale := by
    intro e
    have present : isStale u n = false := (anyStale_eq_false_iff u).1 stale n
    simp [isStale, -Fin.getElem_fin, cfg, other, e] at present
  have moved : nextMember (.start complete) .same s.members.entries[n].state ≠ s.members.entries[n].state := by
    intro e
    rw [raised, if_pos e] at acts
    cases acts
  rw [entry] at notPresent notStale
  rcases nextMember_start_cases complete s.members.entries[n].state with e | e | e
  · exact moved e
  · exact notPresent e
  · exact notStale e

/-- Settles O30: the context, then the hearing, then adoption. -/
theorem startOpensTheSendersContext : Obligations.StartOpensTheSendersContext := by
  intro s gap n w total count d carried heard other digest valid few
  obtain ⟨v, hv⟩ : ∃ v, setContext n (contextOfStart s.cfg n w total (digestMatches s carried)) (frameStart s) = v := ⟨_, rfl⟩
  obtain ⟨x, hx⟩ : ∃ x, hear (fieldOf n) (.start (w == wholeGrid && total == 0)) (judgeDigest s carried) (some carried) v = x := ⟨_, rfl⟩
  obtain ⟨u, hu⟩ : ∃ u, takeStart (fieldOf n) w total count carried (frameStart s) = u := ⟨_, rfl⟩
  have taken : TakenFrame (frameStart s) u := hu ▸ takenFrame_takeStart ..
  obtain ⟨kept, tested⟩ := received_keeps taken
  have still (h : s.seq.state ≠ .syncing) := settleMembership_of_other taken h
  have adopted : u = adoptCount (fieldOf n) carried count x := by
    rw [← hu, takeStart, ← hx, ← hv]
    simp [judgeDigest, digestMatches]
  have blocks : v.cfg = s.cfg ∧ v.points = s.points ∧ v.members = s.members ∧ v.seq = s.seq ∧ v.loader = s.loader ∧ v.raised = 0
      ∧ v.transfer = { s.transfer with
          contexts := s.transfer.contexts.set n (contextOfStart s.cfg n w total (digestMatches s carried)) } := by
    rw [← hv]
    exact ⟨rfl, rfl, rfl, rfl, rfl, rfl, rfl⟩
  obtain ⟨cfg, points, members, seq, loader, silent, transfer⟩ := blocks
  have x_blocks : x.seq = s.seq ∧ x.loader = s.loader ∧ x.cfg = s.cfg := by
    rw [← hx]
    simp [seq, loader, cfg]
  obtain ⟨x_seq, x_loader, x_cfg⟩ := x_blocks
  have u_entries : u.members.entries = x.members.entries := by rw [adopted]; simp
  have u_transfer : u.transfer = { s.transfer with contexts := x.transfer.contexts } := by
    have moved : x.transfer = { v.transfer with contexts := x.transfer.contexts } := by rw [← hx]; exact hear_transfer ..
    rw [adopted, (adoptCount_keeps ..).2.2.2.2.2.2.2.1, moved, transfer]
  obtain ⟨entry, others⟩ := entry_of_hear other cfg (by rw [members]) (u_entries.trans (by rw [hx]))
  refine ⟨settleMembership u, exec_content (heading := ⟨gap, fieldOf n⟩) (content := .start w total count carried) rfl
    (by simp [contentFits, valid, few]) heard (ownField_ne other) hu, others, by simp [adopted, ← hx, ← hv], kept, tested,
    by rw [(settleMembership_drops u).2, u_transfer], fun unsynced => by rw [KeepsJob, (still unsynced).1, u_transfer]; exact ⟨rfl, rfl, rfl⟩,
    fun m hm => ?_, fun same => ?_, fun foreign => ?_⟩
  · have kept : x.transfer.contexts[m] = v.transfer.contexts[m] := by
      rw [← hx]
      exact hear_other_context (by simpa using hm.symm) _ _ _
    rw [settleMembership_contexts, u_transfer, kept, transfer]
    exact set_get_other _ _ _ _ hm
  · subst same
    rw [judgeDigest_eq digest, if_pos rfl] at hx entry
    rw [digestMatches_eq digest, decide_eq_true rfl] at transfer
    obtain ⟨x_points, x_transfer⟩ := hear_kept (s := v) (f := fieldOf n) (h := .start (w == wholeGrid && total == 0)) (o := .same)
      (d := some carried) fun m lost => by rw [start_not_loss] at lost; cases lost
    rw [hx] at x_points x_transfer
    obtain ⟨founded, valid⟩ := adoptCount_settled (s := s) (v := x) (d := carried) (by rw [x_loader]; exact digest) x_seq n count
    refine ⟨by simp [adopted, x_points, points], ?_, entry.trans (by rw [nextMember_start]; rfl), by rw [adopted]; exact founded, ?_⟩
    · rw [settleMembership_contexts, u_transfer, x_transfer, transfer, contextOfStart_eq]
      refine (set_get_self ..).trans ?_
      by_cases empty : total = 0 <;> simp [empty]
    · rintro (held | none)
      · rw [adopted, held]
        exact valid held
      · have unmoved : u = x := by rw [adopted, adoptCount_kept (.inr (.inl none))]
        have entryState := congrArg MemberEntry.state entry
        rw [settleMembership_entries] at entryState
        have count := settleMembership_count_of (s := u) (start_founds_none other (by rw [unmoved, x_cfg]) entryState (by
          rw [unmoved, ← hx, hear_raised_self (stationOfField_fieldOf n) (by rw [cfg]; exact other), silent, members]
          exact BitVec.zero_or))
        rwa [unmoved, x_seq, ← unmoved] at count
  · rw [digestMatches_eq digest, decide_eq_false foreign] at transfer
    rw [judgeDigest_eq digest, if_neg foreign] at hx
    have unmoved : u = x := by
      rw [adopted, adoptCount_kept (.inr (.inr (by rw [digestMatches, x_loader, digest]; simpa using Ne.symm foreign)))]
    obtain ⟨mismatch, known, lost⟩ := received_differs (s := s) (v := v) (u := u) other (h := .start (w == wholeGrid && total == 0))
      (fun m => rfl) carried cfg points (by rw [members]) (by rw [unmoved, hx]) (by rw [unmoved, hx]) (by rw [unmoved, hx])
    refine ⟨?_, mismatch, fun unsynced => ?_, known, fun was => (lost was).1⟩
    · by_cases was : s.members.entries[n].state = .mismatch
      · have kept := ((hear_differs (s := v) (stationOfField_fieldOf n) (by rw [cfg]; exact other) (h := .start (w == wholeGrid && total == 0))
          (fun m => rfl) carried).2.1 (by rw [members]; exact was)).2
        rw [settleMembership_contexts, unmoved, ← hx, kept, transfer, contextOfStart_eq]
        exact set_get_self ..
      · exact (lost was).2
    · rw [KeepsOrder, (still unsynced).2, unmoved, x_seq]
      exact ⟨rfl, rfl, rfl⟩

/-! ## DATA (R76, R111, R112) -/

theorem nextMember_data (completes : Bool) (m : MemberState) :
    nextMember (.data completes) .same m
      = if m = .absent then .stale else if (m = .joining ∨ m = .stale) ∧ completes = true then .present else m := by
  cases completes <;> cases m <;> rfl

/-- A DATA part brings no loss (R76). -/
theorem nextMember_data_kept (completes : Bool) (o : DigestOutcome) (m : MemberState) (h : isLoss (nextMember (.data completes) o m) = true) :
    nextMember (.data completes) o m = m := by
  cases o with
  | differs | unjudged => rfl
  | same =>
    cases completes <;> cases m <;> first | rfl | cases h

/-- The judgement of a DATA frame rests on the last digest held of its sender (R71). -/
theorem judgeData_same_iff (s : State) (n : Station) :
    judgeData s n = .same ↔ s.members.entries[n].lastDigest.isSome = true ∧ s.members.entries[n].lastDigest = s.loader.digest := by
  unfold judgeData
  cases h : s.members.entries[n].lastDigest with
  | none => simp
  | some d =>
    simp only [judgeDigest, digestMatches, Option.isSome_some, true_and]
    by_cases e : s.loader.digest = some d
    · simp [e]
    · simp [e, Ne.symm e]

theorem takeData_followed {s : State} {n : Station} {x : ReceiveContext} {part : Nat} {last : Bool} {records : List WireRecord}
    (context : s.transfer.contexts[n] = some x) (agrees : partAgrees s.cfg n x part last records.length = true) :
    takeData (fieldOf n) part last records s
      = hear (fieldOf n) (.data (last && x.fullWindow)) (judgeData s n) none (followPart n x records s) := by
  simp only [takeData, stationOfField_fieldOf, context, agrees, if_true]

theorem takeData_dropped {s : State} {n : Station} {part : Nat} {last : Bool} {records : List WireRecord}
    (refused : s.transfer.contexts[n] = none ∨ ∃ x, s.transfer.contexts[n] = some x ∧ partAgrees s.cfg n x part last records.length = false) :
    takeData (fieldOf n) part last records s = hear (fieldOf n) (.data false) (judgeData s n) none (dropTransfer n s) := by
  rcases refused with context | ⟨x, context, refused⟩
  · simp only [takeData, stationOfField_fieldOf, context]
  · simp only [takeData, stationOfField_fieldOf, context, refused, Bool.false_eq_true, if_false]

/-- What a DATA part of another station leaves, by the state `v` in which its sender is heard. -/
theorem received_data {s v u : State} {n : Station} (other : s.cfg.self ≠ some n) {completes : Bool} {o : DigestOutcome} (cfg : v.cfg = s.cfg)
    (members : v.members = s.members) (seq : v.seq = s.seq) (responder : v.responder = s.responder)
    (taken : TakenFrame (frameStart s) u) (transfer : KeepsJob s v) (heard : hear (fieldOf n) (.data completes) o none v = u) :
    (settleMembership u).points = v.points ∧ (settleMembership u).transfer.contexts = v.transfer.contexts
      ∧ (settleMembership u).transfer.transferDrops = v.transfer.transferDrops
      ∧ (s.seq.state ≠ .syncing → KeepsJob s (settleMembership u) ∧ KeepsOrder s (settleMembership u))
      ∧ (settleMembership u).members.entries[n]
          = { state := nextMember (.data completes) o s.members.entries[n].state, ageMs := 0, lastDigest := s.members.entries[n].lastDigest }
      ∧ KeepsOtherEntries n s (settleMembership u) ∧ (settleMembership u).responder = s.responder := by
  obtain ⟨points, kept⟩ := hear_kept (s := v) (f := fieldOf n) (h := .data completes) (o := o) (d := none) (nextMember_data_kept completes o)
  obtain ⟨entry, others⟩ := entry_of_hear (u := u) other cfg (by rw [members]) (by rw [← heard])
  rw [heard] at points kept
  refine ⟨by simp [points], by rw [settleMembership_contexts, kept], by rw [(settleMembership_drops u).2, kept], fun unsynced => ?_, entry, others,
    by simp [← heard, responder]⟩
  obtain ⟨stillTransfer, stillSeq⟩ := settleMembership_of_other taken unsynced
  have u_seq : u.seq = s.seq := by rw [← heard, (hear_keeps ..).2.2.2.2.2.1, seq]
  refine ⟨?_, by rw [KeepsOrder, stillSeq, u_seq]; exact ⟨rfl, rfl, rfl⟩⟩
  obtain ⟨job, region, drops⟩ := transfer
  rw [KeepsJob, stillTransfer, kept]
  exact ⟨job, region, drops⟩

/-- Settles O31: `followPart`, then the hearing. -/
theorem dataPartIsWrittenFromTheCursor : Obligations.DataPartIsWrittenFromTheCursor := by
  intro s gap n x c last records d heard other digest context cursor matching first eleventh some three few enough isLast
  obtain ⟨v, hv⟩ : ∃ v, followPart n x records (frameStart s) = v := ⟨_, rfl⟩
  obtain ⟨u, hu⟩ : ∃ u, takeData (fieldOf n) x.expectedPart last records (frameStart s) = u := ⟨_, rfl⟩
  have taken : TakenFrame (frameStart s) u := hu ▸ takenFrame_takeData ..
  obtain ⟨kept, tested⟩ := received_keeps taken
  have ahead : pointsFrom s.cfg (.some n) x.window x.cursor
      = allPoints.filter fun p => s.cfg.points[p].owner == .some n && inWindow x.window p && c ≤ p := by rw [cursor, pointsFrom_some]
  have agrees : partAgrees s.cfg n x x.expectedPart last records.length = true := by
    have final : (last == (records.length == x.remaining)) = true := by
      rw [beq_iff_eq, Bool.eq_iff_iff, isLast, beq_iff_eq]
    simp only [partAgrees, ahead, beq_self_eq_true, few, enough, final, decide_true, Bool.and_self]
  have judged : judgeData (frameStart s) n = .same := (judgeData_same_iff (frameStart s) n).2 (by
    change s.members.entries[n].lastDigest.isSome = true ∧ s.members.entries[n].lastDigest = s.loader.digest
    rw [matching, digest]
    exact ⟨rfl, rfl⟩)
  have heardFrom : hear (fieldOf n) (.data (last && x.fullWindow)) .same none v = u := by
    rw [← hu, takeData_followed (s := frameStart s) context agrees, judged, hv]
  have blocks : v.cfg = s.cfg ∧ v.members = s.members ∧ v.seq = s.seq ∧ v.responder = s.responder ∧ KeepsJob s v
      ∧ v.points = writePart s.cfg n x records s.points
      ∧ v.transfer.transferDrops = s.transfer.transferDrops
      ∧ v.transfer.contexts = s.transfer.contexts.set n (contextAfterPart s.cfg n x records.length) := by
    rw [← hv]
    exact ⟨rfl, rfl, rfl, rfl, ⟨rfl, rfl, rfl⟩, rfl, rfl, rfl⟩
  obtain ⟨cfg, members, seq, responder, job, points, drops, contexts⟩ := blocks
  obtain ⟨t_points, t_contexts, t_drops, t_kept, entry, others, t_responder⟩ :=
    received_data other cfg members seq responder taken job heardFrom
  refine ⟨settleMembership u, exec_content (heading := ⟨gap, fieldOf n⟩) (content := .data x.expectedPart last records) rfl
    (by simp [contentFits, first, eleventh, some, three]) heard (ownField_ne other) hu, ?_, ?_, fun m hm => ?_, by rw [t_drops, drops], t_kept, ?_,
    others, t_responder, kept, tested⟩
  · rw [t_points, points, writePart, ahead]
    rfl
  · rw [t_contexts, contexts, contextAfterPart, ahead]
    refine (set_get_self ..).trans ?_
    by_cases final : records.length = x.remaining
    · rw [if_pos final, if_pos (isLast.2 final)]
    · rw [if_neg final, if_neg fun h => final (isLast.1 h)]
  · rw [t_contexts, contexts]
    exact set_get_other _ _ _ _ hm
  · rw [entry, nextMember_data, matching]
    simp

/-- The five ways to disagree with an open context (R111). -/
theorem partAgrees_eq_false {cfg : Configuration} {n : Station} {x : ReceiveContext} {part : Nat} {last : Bool} {count : Nat} (some : 1 ≤ count)
    (h : part ≠ x.expectedPart ∨ x.remaining < count ∨ (last = true ∧ count ≠ x.remaining) ∨ (last = false ∧ count = x.remaining)
      ∨ x.cursor = none
      ∨ ∃ c : PointIndex, x.cursor = .some c
          ∧ (allPoints.filter fun p => cfg.points[p].owner == .some n && inWindow x.window p && c ≤ p).length < count) :
    partAgrees cfg n x part last count = false := by
  rw [Bool.eq_false_iff]
  intro agrees
  simp only [partAgrees, Bool.and_eq_true, beq_iff_eq, decide_eq_true_eq] at agrees
  obtain ⟨⟨⟨part, fits⟩, ahead⟩, final⟩ := agrees
  rcases h with h | h | ⟨h, short⟩ | ⟨h, full⟩ | h | ⟨c, h, short⟩
  · exact h part
  · omega
  · rw [h, eq_comm, beq_iff_eq] at final
    exact short final
  · rw [h, eq_comm, beq_eq_false_iff_ne] at final
    exact final full
  · rw [h] at ahead
    simp only [pointsFrom, List.length_nil] at ahead
    omega
  · rw [h, pointsFrom_some] at ahead
    omega

/-- Settles O32: the drop, then the hearing. -/
theorem refusedDataPartCountsOneDrop : Obligations.RefusedDataPartCountsOneDrop := by
  intro s gap n part last records heard other first eleventh some three refused
  obtain ⟨u, hu⟩ : ∃ u, takeData (fieldOf n) part last records (frameStart s) = u := ⟨_, rfl⟩
  have taken : TakenFrame (frameStart s) u := hu ▸ takenFrame_takeData ..
  obtain ⟨kept, tested⟩ := received_keeps taken
  have heardFrom : hear (fieldOf n) (.data false) (judgeData (frameStart s) n) none (dropTransfer n (frameStart s)) = u := by
    rw [← hu, takeData_dropped (s := frameStart s)]
    exact refused.imp_right fun ⟨x, context, why⟩ => ⟨x, context, partAgrees_eq_false some why⟩
  obtain ⟨t_points, t_contexts, t_drops, t_kept, entry, others, t_responder⟩ :=
    received_data (v := dropTransfer n (frameStart s)) other rfl rfl rfl rfl taken ⟨rfl, rfl, rfl⟩ heardFrom
  refine ⟨settleMembership u, exec_content (heading := ⟨gap, fieldOf n⟩) (content := .data part last records) rfl
    (by simp [contentFits, first, eleventh, some, three]) heard (ownField_ne other) hu, t_points, ?_, fun m hm => ?_, t_drops, t_kept, ?_,
    others, t_responder, kept, tested⟩
  · rw [t_contexts]
    exact set_get_self ..
  · rw [t_contexts]
    exact set_get_other _ _ _ _ hm
  · rw [entry]
    have judged := judgeData_same_iff (frameStart s) n
    change _ ↔ s.members.entries[n].lastDigest.isSome = true ∧ s.members.entries[n].lastDigest = s.loader.digest at judged
    by_cases same : judgeData (frameStart s) n = .same
    · rw [same, nextMember_data]
      simp only [and_iff_left (judged.1 same), Bool.false_eq_true, and_false, if_false]
    · have unmoved : nextMember (.data false) (judgeData (frameStart s) n) s.members.entries[n].state = s.members.entries[n].state := by
        cases h : judgeData (frameStart s) n with
        | same => exact absurd h same
        | differs | unjudged => rfl
      rw [unmoved, if_neg fun h => same (judged.2 h.2)]

/-! ## PRESENCE (R74, R82, R83) -/

theorem nextMember_presence (peer : LineState) (m : MemberState) :
    nextMember (.presence (peer == .synced)) .same m
      = if peer = .synced then (if m = .present then .present else .stale) else .joining := by
  cases peer <;> cases m <;> rfl

/-- A disagreement of counts with a PRESENT, SYNCED peer (R83). -/
theorem disagrees_iff {s : State} {n : Station} (other : s.cfg.self ≠ some n) {d : Word} (digest : s.loader.digest = some d) (carried : Word)
    (count : Option Word) (peer : LineState) :
    disagrees (fieldOf n) carried count peer s = true ↔
      carried = d ∧ s.seq.state = .synced ∧ s.seq.countValid = true ∧ peer = .synced ∧ s.members.entries[n].state = .present
        ∧ count ≠ some s.seq.orderCount := by
  simp only [disagrees, stationOfField_fieldOf, isPresent, digestMatches_eq digest, Bool.and_eq_true, beq_iff_eq, bne_iff_ne, decide_eq_true_eq]
  grind

/-- Settles O33: the comparison, then the hearing, then adoption. -/
theorem presenceMovesItsSenderAndComparesCounts : Obligations.PresenceMovesItsSenderAndComparesCounts := by
  intro s gap n count peer d carried heard other digest
  obtain ⟨v, hv⟩ : ∃ v, (if disagrees (fieldOf n) carried count peer (frameStart s) then countDisagreement (frameStart s) else frameStart s) = v :=
    ⟨_, rfl⟩
  obtain ⟨x, hx⟩ : ∃ x, hear (fieldOf n) (.presence (peer == .synced)) (judgeDigest s carried) (some carried) v = x := ⟨_, rfl⟩
  obtain ⟨u, hu⟩ : ∃ u, takePresence (fieldOf n) carried count peer (frameStart s) = u := ⟨_, rfl⟩
  have taken : TakenFrame (frameStart s) u := hu ▸ takenFrame_takePresence ..
  obtain ⟨kept, tested⟩ := received_keeps taken
  have still (h : s.seq.state ≠ .syncing) := settleMembership_of_other taken h
  have adopted : u = adoptCount (fieldOf n) carried count x := by
    rw [← hu, takePresence, hv, ← hx]
    simp [judgeDigest, digestMatches]
  have blocks : v.cfg = s.cfg ∧ v.points = s.points ∧ v.members.entries = s.members.entries ∧ v.seq = s.seq ∧ v.loader = s.loader
      ∧ v.responder = s.responder ∧ v.transfer = s.transfer := by
    rw [← hv]
    split <;> exact ⟨rfl, rfl, rfl, rfl, rfl, rfl, rfl⟩
  obtain ⟨cfg, points, entries, seq, loader, responder, transfer⟩ := blocks
  have disagreed : v.members.orderDisagreements
      = if carried = d ∧ s.seq.state = .synced ∧ s.seq.countValid = true ∧ peer = .synced ∧ s.members.entries[n].state = .present
            ∧ count ≠ some s.seq.orderCount then stepCounter s.members.orderDisagreements
        else s.members.orderDisagreements := by
    have iff := disagrees_iff (s := frameStart s) (d := d) other digest carried count peer
    change _ ↔ carried = d ∧ s.seq.state = .synced ∧ s.seq.countValid = true ∧ peer = .synced ∧ s.members.entries[n].state = .present
      ∧ count ≠ some s.seq.orderCount at iff
    rw [← hv]
    by_cases h : disagrees (fieldOf n) carried count peer (frameStart s) = true
    · rw [if_pos h, if_pos (iff.1 h)]
      rfl
    · rw [if_neg h, if_neg fun g => h (iff.2 g)]
      rfl
  obtain ⟨x_seq, x_loader, x_responder, x_disagreed⟩ : x.seq = s.seq ∧ x.loader = s.loader ∧ x.responder = s.responder
      ∧ x.members.orderDisagreements = v.members.orderDisagreements := by
    rw [← hx]
    simp [seq, loader, responder]
  have t_disagreed : (settleMembership u).members.orderDisagreements = v.members.orderDisagreements := by
    rw [settleMembership_orderDisagreements, adopted, (adoptCount_keeps ..).2.2.2.2.2.2.1, x_disagreed]
  have u_transfer : u.transfer = { s.transfer with contexts := x.transfer.contexts } := by
    have moved : x.transfer = { v.transfer with contexts := x.transfer.contexts } := by rw [← hx]; exact hear_transfer ..
    rw [adopted, (adoptCount_keeps ..).2.2.2.2.2.2.2.1, moved, transfer]
  obtain ⟨entry, others⟩ := entry_of_hear (u := u) other cfg entries (show u.members.entries = _ by rw [adopted, hx]; simp)
  refine ⟨settleMembership u, exec_content (heading := ⟨gap, fieldOf n⟩) (content := .presence carried count peer) rfl rfl heard (ownField_ne other)
    hu, others, by simp [adopted, x_responder], kept, tested,
    fun unsynced => by rw [KeepsJob, (still unsynced).1, u_transfer]; exact ⟨rfl, rfl, rfl⟩, fun same => ?_, fun foreign => ?_⟩
  · subst same
    rw [judgeDigest_eq digest, if_pos rfl] at hx entry
    obtain ⟨x_points, x_transfer⟩ := hear_kept (s := v) (f := fieldOf n) (h := .presence (peer == .synced)) (o := .same) (d := some carried)
      fun m lost => by rw [nextMember_presence] at lost; revert lost; split <;> [split; skip] <;> nofun
    rw [hx] at x_points x_transfer
    obtain ⟨founded, valid⟩ := adoptCount_settled (s := s) (v := x) (d := carried) (by rw [x_loader]; exact digest) x_seq n count
    refine ⟨by simp [adopted, x_points, points], by rw [settleMembership_contexts, u_transfer, x_transfer, transfer],
      entry.trans (by rw [nextMember_presence]; rfl), by rw [adopted]; exact founded, by rw [adopted]; exact valid, ?_⟩
    rw [t_disagreed, disagreed]
    simp only [true_and]
    rfl
  · rw [judgeDigest_eq digest, if_neg foreign] at hx
    have unmoved : u = x := by
      rw [adopted, adoptCount_kept (.inr (.inr (by rw [digestMatches, x_loader, digest]; simpa using Ne.symm foreign)))]
    obtain ⟨mismatch, known, lost⟩ := received_differs (s := s) (v := v) (u := u) other (h := .presence (peer == .synced))
      (fun m => by cases peer <;> rfl) carried cfg points entries (by rw [unmoved, hx]) (by rw [unmoved, hx]) (by rw [unmoved, hx])
    refine ⟨mismatch, by rw [t_disagreed, disagreed, if_neg fun h => foreign h.1], fun unsynced => ?_, known, lost⟩
    rw [KeepsOrder, (still unsynced).2, unmoved, x_seq]
    exact ⟨rfl, rfl, rfl⟩

end Sys2Proof.Machine
end

section
/-! PROOFS. Frames of unnumbered senders, malformed frames and queries (R61, R63, R64, R70, R77, R95, R105, R106, R177 to R183). -/

namespace Sys2Proof.Machine

open Sys2Proof

/-! ## Frames that move no entry -/

/-- A frame that raises no MEMBERSHIP ends no synchronisation: every block is as its taking left it. -/
theorem received_silent {s u : State} (taken : TakenFrame (frameStart s) u) (silent : actsOn u.raised classMembership = false) :
    (settleMembership u).transfer = u.transfer ∧ (settleMembership u).scanner = s.scanner ∧ (settleMembership u).seq = u.seq := by
  obtain ⟨transfer, scanner, seq⟩ := settleMembership_of_unsynchronised (synchronise_of_silent silent)
  exact ⟨transfer, by rw [scanner, taken.scanner]; simp, seq⟩

/-- A frame whose sender is heard and whose entry it leaves in its state (R64, R77). -/
theorem hearOnly_eq {s : State} {f : StationField} (other : ∀ n, stationOfField f = some n → s.cfg.self ≠ some n) :
    (∀ m : Station, (hearOnly f s).members.entries[m]
        = if stationOfField f = some m then { s.members.entries[m] with ageMs := 0 } else s.members.entries[m])
      ∧ (hearOnly f s).members.orderDisagreements = s.members.orderDisagreements ∧ (hearOnly f s).points = s.points
      ∧ (hearOnly f s).transfer = s.transfer := by
  obtain ⟨points, transfer⟩ := hear_kept (s := s) (f := f) (h := .queryReplyOrMalformed) (o := .unjudged) (d := none) fun m _ => rfl
  exact ⟨fun m => hear_entry_get other .queryReplyOrMalformed .unjudged none m, hear_orderDisagreements .., points, transfer⟩

/-- What such a frame leaves. -/
theorem received_heard {s u v : State} {f : StationField} (other : ownField s ≠ some f) (taken : TakenFrame (frameStart s) u) (cfg : v.cfg = s.cfg)
    (members : v.members = s.members) (u_members : u.members = (hearOnly f v).members) (raised : u.raised = 0) :
    AgeReset f s (settleMembership u) ∧ (settleMembership u).points = u.points ∧ (settleMembership u).seq = u.seq
      ∧ (settleMembership u).transfer = u.transfer ∧ (settleMembership u).scanner = s.scanner
      ∧ (settleMembership u).responder = u.responder ∧ (settleMembership u).raised = 0 ∧ FrameKeeps s (settleMembership u)
      ∧ RepairTested s (settleMembership u) := by
  obtain ⟨entries, disagreements, -, -⟩ := hearOnly_eq (s := v) (f := f) fun n hf => by rw [cfg]; exact other_of_ownField other n hf
  obtain ⟨transfer, scanner, seq⟩ := received_silent taken (by rw [raised]; rfl)
  obtain ⟨kept, tested⟩ := received_keeps taken
  refine ⟨⟨fun m => ?_, ?_⟩, by simp, seq, transfer, scanner, by simp, by simpa using raised, kept, tested⟩
  · rw [settleMembership_entries, u_members, entries m, members]
  · rw [settleMembership_orderDisagreements, u_members, disagreements, members]

/-- A frame from which nothing is taken but that its sender was heard. -/
theorem received_onlyHeard {s u v : State} {f : StationField} (other : ownField s ≠ some f) (taken : TakenFrame (frameStart s) u)
    (cfg : v.cfg = s.cfg) (members : v.members = s.members) (u_members : u.members = (hearOnly f v).members) (raised : u.raised = 0)
    (points : u.points = s.points) (seq : u.seq = s.seq) (transfer : u.transfer = s.transfer) (responder : u.responder = s.responder) :
    OnlyHeard f s (settleMembership u) := by
  obtain ⟨age, t_points, t_seq, t_transfer, t_scanner, t_responder, t_raised, kept, tested⟩ :=
    received_heard other taken cfg members u_members raised
  exact ⟨age, t_points.trans points, t_seq.trans seq, t_transfer.trans transfer, t_scanner, t_responder.trans responder, t_raised, kept, tested⟩

theorem received_hearOnly {s : State} {f : StationField} (other : ownField s ≠ some f) :
    OnlyHeard f s (settleMembership (hearOnly f (frameStart s))) := by
  obtain ⟨-, -, points, transfer⟩ := hearOnly_eq (s := frameStart s) (f := f) fun n hf => by simpa using other_of_ownField other n hf
  exact received_onlyHeard other (takenFrame_hearOnly f _) (v := frameStart s) (by simp) (by simp) rfl (by simp) (by rw [points]; simp) (by simp)
    (by rw [transfer]; simp) (by simp)

/-! ## Senders that no station bears (R70) -/

theorem takePayload_point_unnumbered {f : StationField} (hf : stationOfField f = none) (payload : List Byte) (s : State) :
    takePayload .point f payload s = countPoint s := by
  unfold takePayload
  cases h : readPayload .point payload with
  | none => exact hear_unnumbered hf _ _ _ _
  | some content =>
    have cls := classOf_readPayload h
    cases content with
    | point p w d =>
      change writePoint f p w d (hear f _ _ _ (countPoint s)) = _
      rw [hear_unnumbered hf, writePoint]
      simp only [hf]
    | operator _ _ _ _ | join _ _ | start _ _ _ _ | data _ _ _ | presence _ _ _ | query _ | reply _ _ _ => cases cls

/-- An OPERATOR frame is applied whatever number it carries (R19). -/
theorem takePayload_operator_unnumbered {f : StationField} (hf : stationOfField f = none) (payload : List Byte) (s : State) :
    takePayload .operator f payload s = s
      ∨ ∃ records, takePayload .operator f payload s = raise classOperatorAny (s.setPoints records) := by
  unfold takePayload
  cases h : readPayload .operator payload with
  | none => exact .inl (hear_unnumbered hf _ _ _ _)
  | some content =>
    have cls := classOf_readPayload h
    cases content with
    | operator op groups horizon d =>
      change takeOperator f op groups horizon d s = s ∨ ∃ records, takeOperator f op groups horizon d s = _
      rw [takeOperator, hear_unnumbered hf, hear_unnumbered hf]
      split
      · exact .inr ⟨_, rfl⟩
      · exact .inl rfl
    | point _ _ _ | join _ _ | start _ _ _ _ | data _ _ _ | presence _ _ _ | query _ | reply _ _ _ => cases cls

theorem takePayload_membership_unnumbered {f : StationField} (hf : stationOfField f = none) {cls : FrameClass}
    (hc : cls = .join ∨ cls = .snapshot ∨ cls = .presence) (payload : List Byte) (s : State) : takePayload cls f payload s = s := by
  have unadopted (d : Word) (count : Option Word) : adoptCount f d count s = s := by
    unfold adoptCount
    split
    · rfl
    · simp [hf]
  unfold takePayload
  cases h : readPayload cls payload with
  | none =>
    rcases hc with rfl | rfl | rfl
    · exact hear_unnumbered hf _ _ _ _
    · change (match stationOfField f with | some n => hearOnly f (dropTransfer n s) | none => s) = s
      simp only [hf]
    · exact hear_unnumbered hf _ _ _ _
  | some content =>
    have same := classOf_readPayload h
    cases content with
    | join d reason =>
      change hear f _ _ _ (answerJoin f d s) = s
      rw [hear_unnumbered hf, answerJoin, if_neg (by simp [hf])]
    | start w total count d =>
      simp only [takeContent, takeStart, hf]
    | data part last records =>
      simp only [takeContent, takeData, hf]
    | presence d count peer =>
      change adoptCount f d count (hear f _ _ _ (if disagrees f d count peer s then countDisagreement s else s)) = s
      rw [hear_unnumbered hf, if_neg (by simp [disagrees, hf]), unadopted]
    | point _ _ _ | operator _ _ _ _ | query _ | reply _ _ _ => rcases hc with rfl | rfl | rfl <;> cases same

/-- What a frame of an unnumbered sender leaves. -/
theorem received_unnumbered {s u : State} (taken : TakenFrame (frameStart s) u) (silent : actsOn u.raised classMembership = false)
    (members : u.members = s.members) (transfer : u.transfer = s.transfer) (responder : u.responder = s.responder)
    (valid : u.seq.countValid = s.seq.countValid) :
    (settleMembership u).members.entries = s.members.entries ∧ (settleMembership u).transfer = s.transfer
      ∧ (settleMembership u).members.orderDisagreements = s.members.orderDisagreements ∧ (settleMembership u).responder = s.responder
      ∧ FrameKeeps s (settleMembership u) ∧ RepairTested s (settleMembership u)
      ∧ (settleMembership u).seq.countValid = s.seq.countValid ∧ (settleMembership u).seq.state = s.seq.state := by
  obtain ⟨t_transfer, -, t_seq⟩ := received_silent taken silent
  obtain ⟨kept, tested⟩ := received_keeps taken
  exact ⟨by rw [settleMembership_entries, members], t_transfer.trans transfer, by rw [settleMembership_orderDisagreements, members],
    by simpa using responder, kept, tested, by rw [t_seq, valid], by rw [t_seq, taken.lineState]; simp⟩

/-- Settles O34: class by class, nothing but the count of a POINT and the operation of an OPERATOR frame is taken. -/
theorem unnumberedSendersReachNoEntry : Obligations.UnnumberedSendersReachNoEntry := by
  intro s gap f c frame heard hf other moves sender
  have order {u : State} (taken : TakenFrame (frameStart s) u) (silent : actsOn u.raised classMembership = false) (seq : u.seq = s.seq) :
      KeepsOrder s (settleMembership u) := by
    rw [KeepsOrder, (received_silent taken silent).2.2, seq]
    exact ⟨rfl, rfl, rfl⟩
  have untaken {cls : FrameClass} {payload : List Byte} (row : deliveredFrame c = some (cls, ⟨gap, f⟩, payload))
      (hc : cls = .join ∨ cls = .snapshot ∨ cls = .presence) : exec c s = .next (settleMembership (frameStart s)) := by
    rw [exec_received row heard other, takePayload_membership_unnumbered hf hc]
  have plain := received_unnumbered (.refl (frameStart s)) (by simp [actsOn]) (by simp) (by simp) (by simp) (by simp)
  cases c with
  | pointFrame heading payload =>
    cases frame; cases sender
    have taken := takenFrame_countPoint (frameStart s)
    obtain ⟨entries, transfer, disagreements, responder, kept, tested, valid, state⟩ :=
      received_unnumbered taken (by simp [actsOn]) (by simp) (by simp) (by simp) (by simp [countPoint])
    refine ⟨settleMembership (countPoint (frameStart s)), by rw [exec_received rfl heard other, takePayload_point_unnumbered hf],
      entries, transfer, disagreements, responder, kept, tested, valid, state, .inr (by simp), fun _ => ?_, .inl ⟨payload, rfl⟩⟩
    rw [(received_silent taken (by simp [actsOn])).2.2]
    simp [countPoint]
  | operatorFrame heading payload =>
    cases frame; cases sender
    rcases takePayload_operator_unnumbered hf payload (frameStart s) with e | ⟨records, e⟩
    · obtain ⟨entries, transfer, disagreements, responder, kept, tested, valid, state⟩ := plain
      exact ⟨settleMembership (frameStart s), by rw [exec_received rfl heard other, e], entries, transfer, disagreements, responder, kept, tested,
        valid, state, .inr (by simp), nofun, .inr (order (.refl _) (by simp [actsOn]) (by simp))⟩
    · have taken : TakenFrame (frameStart s) (raise classOperatorAny ((frameStart s).setPoints records)) :=
        (takenFrame_setPoints _ _).trans (takenFrame_raise _ _)
      have silent : actsOn (raise classOperatorAny ((frameStart s).setPoints records)).raised classMembership = false := by
        simp [raise, actsOn, classOperatorAny, classMembership]
      obtain ⟨entries, transfer, disagreements, responder, kept, tested, valid, state⟩ :=
        received_unnumbered taken silent (by simp) (by simp) (by simp) (by simp)
      exact ⟨_, by rw [exec_received rfl heard other, e], entries, transfer, disagreements, responder, kept, tested,
        valid, state, .inl ⟨payload, rfl⟩, nofun, .inr (order taken silent (by simp))⟩
  | joinFrame heading payload | snapshotStart heading payload | snapshotData heading payload | presenceFrame heading payload =>
    cases frame; cases sender
    obtain ⟨entries, transfer, disagreements, responder, kept, tested, valid, state⟩ := plain
    exact ⟨settleMembership (frameStart s), untaken rfl (by simp), entries, transfer, disagreements, responder, kept, tested,
      valid, state, .inr (by simp), nofun, .inr (order (.refl _) (by simp [actsOn]) (by simp))⟩
  | queryStatus _ _ | queryMembers _ _ | queryRegion _ _ | queryRestart _ _ | replyFrame _ _ | unassignedFrame _ _ | faultyFrameReceived _
  | hardwareReset _ | resetRelease _ _ _ | imageReadComplete _ | loadChecksComplete | attemptStart | lostArbitration | echoMismatch
  | attemptVoided | ownFrameSuccessfulEnd | voidSeen | listenTimerExpiry | syncTimerExpiry | holdOffExpiry | absentTimeout _
  | repairTimerExpiry | t0PresenceExpiry | activityTimerExpiry _ | lampTestTimeout | fieldInputChange _ _ | inputSettlingExpiry _
  | buttonInputChange _ _ | buttonSettlingExpiry _ | inputSettlingAbandoned _ | buttonSettlingAbandoned _ => cases moves

end Sys2Proof.Machine
end

section
/-! PROOFS. Malformed frames and queries (R61 to R64, R102, R105, R106, R129, R162, R177 to R183). -/

namespace Sys2Proof.Machine

open Sys2Proof

/-! ## Malformed frames (R63, R64) -/

theorem takePayload_malformed {cls : FrameClass} {payload : List Byte} (h : readPayload cls payload = none) (f : StationField) (s : State) :
    takePayload cls f payload s = takeMalformed cls f s := by
  unfold takePayload
  simp only [h]

/-- A malformed frame of which nothing is taken but that its sender was heard. -/
theorem exec_malformed_onlyHeard {c : Instr} {cls : FrameClass} {heading : FrameHeading} {payload : List Byte} {s : State}
    (frame : deliveredFrame c = some (cls, heading, payload)) (heard : hears heading.gap s = true) (other : ownField s ≠ some heading.sender)
    (malformed : readPayload cls payload = none) (taken : takeMalformed cls heading.sender (frameStart s) = hearOnly heading.sender (frameStart s)) :
    ∃ t, exec c s = .next t ∧ OnlyHeard heading.sender s t :=
  ⟨_, by rw [exec_received frame heard other, takePayload_malformed malformed, taken], received_hearOnly other⟩

/-- A malformed POINT frame still counts. -/
theorem exec_malformed_point {s : State} {gap : Nat} {f : StationField} {payload : List Byte} (heard : hears gap s = true)
    (other : ownField s ≠ some f) (malformed : readPayload .point payload = none) :
    ∃ t, exec (.pointFrame ⟨gap, f⟩ payload) s = .next t
      ∧ t.seq = { s.seq with
          orderCount := if s.seq.countValid then s.seq.orderCount + 1 else s.seq.orderCount, pointHeard := true }
      ∧ AgeReset f s t ∧ t.points = s.points ∧ t.transfer = s.transfer ∧ t.scanner = s.scanner ∧ t.responder = s.responder
      ∧ t.raised = 0 ∧ KeepsSetup s t ∧ KeepsPanel s t ∧ KeepsCounts s t ∧ t.lamp = s.lamp ∧ RepairTested s t := by
  obtain ⟨-, -, points, transfer⟩ := hearOnly_eq (s := countPoint (frameStart s)) (f := f) fun n hf => by simpa using other_of_ownField other n hf
  obtain ⟨age, t_points, t_seq, t_transfer, t_scanner, t_responder, t_raised, ⟨setup, panel, counts, lamp, -⟩, tested⟩ :=
    received_heard (v := countPoint (frameStart s)) other ((takenFrame_countPoint _).trans (takenFrame_hearOnly f _)) (by simp) (by simp) rfl
      (by simp)
  refine ⟨settleMembership (hearOnly f (countPoint (frameStart s))), by rw [exec_received rfl heard other, takePayload_malformed malformed]; rfl,
    ?_, age, by rw [t_points, points]; simp, by rw [t_transfer, transfer]; simp, t_scanner, by rw [t_responder]; simp, t_raised, setup, panel,
    counts, lamp, tested⟩
  rw [t_seq, (hearOnly_keeps ..).2.2.2.2.2.1]
  simp [countPoint]

/-- A malformed SNAPSHOT frame of a numbered sender closes its context and counts a drop. -/
theorem exec_malformed_snapshot {c : Instr} {s : State} {gap : Nat} {f : StationField} {n : Station} {payload : List Byte}
    (frame : deliveredFrame c = some (.snapshot, ⟨gap, f⟩, payload)) (heard : hears gap s = true) (other : ownField s ≠ some f)
    (malformed : readPayload .snapshot payload = none) (signed : stationOfField f = some n) :
    ∃ t, exec c s = .next t ∧ t.transfer.contexts[n] = none
      ∧ (∀ m : Station, m ≠ n → t.transfer.contexts[m] = s.transfer.contexts[m])
      ∧ t.transfer.transferDrops = (if s.transfer.transferDrops = 255 then 255 else s.transfer.transferDrops + 1) ∧ KeepsJob s t
      ∧ AgeReset f s t ∧ t.points = s.points ∧ t.seq = s.seq ∧ t.scanner = s.scanner ∧ t.responder = s.responder
      ∧ t.raised = 0 ∧ FrameKeeps s t ∧ RepairTested s t := by
  obtain ⟨-, -, points, transfer⟩ := hearOnly_eq (s := dropTransfer n (frameStart s)) (f := f) fun m hf => by
    simpa using other_of_ownField other m hf
  have follows : TakenFrame (frameStart s) (hearOnly f (dropTransfer n (frameStart s))) :=
    (takenFrame_setTransfer _ _).trans (takenFrame_hearOnly f _)
  obtain ⟨age, t_points, t_seq, t_transfer, t_scanner, t_responder, t_raised, kept, tested⟩ :=
    received_heard (v := dropTransfer n (frameStart s)) other follows (by simp) (by simp) rfl (by simp)
  have dropped : (settleMembership (hearOnly f (dropTransfer n (frameStart s)))).transfer
      = { s.transfer with contexts := s.transfer.contexts.set n none, transferDrops := stepCounter s.transfer.transferDrops } := by
    rw [t_transfer, transfer]
    rfl
  have taken : takeMalformed .snapshot f (frameStart s) = hearOnly f (dropTransfer n (frameStart s)) := by
    simp only [takeMalformed, signed]
  refine ⟨settleMembership (hearOnly f (dropTransfer n (frameStart s))),
    by rw [exec_received frame heard other, takePayload_malformed malformed, taken],
    ?_, fun m hm => ?_, ?_, ?_, age, by rw [t_points, points]; simp, by rw [t_seq]; simp, t_scanner, by rw [t_responder]; simp, t_raised, kept,
    tested⟩
  · rw [dropped]
    exact set_get_self ..
  · rw [dropped]
    exact set_get_other _ _ _ _ hm
  · rw [dropped]
    rfl
  · rw [KeepsJob, dropped]
    exact ⟨rfl, rfl, rfl⟩

/-- Settles O35: R63's table, and the taking of each class. -/
theorem malformedFramesWriteNothing : Obligations.MalformedFramesWriteNothing := by
  refine ⟨fun p => ⟨readPoint_eq_none p, readOperator_eq_none p, readJoin_eq_none p, readSnapshot_eq_none p, readPresence_eq_none p,
    readQuery_eq_none p, readReply_eq_none p⟩, fun s gap f payload heard other => ⟨exec_malformed_point heard other,
    fun malformed n signed c row => ?_, fun malformed unsigned => ?_, fun malformed => ?_, fun malformed => ?_, fun malformed => ?_,
    fun malformed c row => ?_, fun malformed => ?_⟩⟩
  · rcases row with rfl | rfl <;> exact exec_malformed_snapshot rfl heard other malformed signed
  · refine exec_malformed_onlyHeard (heading := ⟨gap, f⟩) rfl heard other malformed ?_
    simp only [takeMalformed, unsigned]
    exact (hear_unnumbered unsigned _ _ _ _).symm
  · exact exec_malformed_onlyHeard (heading := ⟨gap, f⟩) rfl heard other malformed rfl
  · exact exec_malformed_onlyHeard (heading := ⟨gap, f⟩) rfl heard other malformed rfl
  · exact exec_malformed_onlyHeard (heading := ⟨gap, f⟩) rfl heard other malformed rfl
  · rcases row with rfl | rfl | rfl | rfl <;> exact exec_malformed_onlyHeard (heading := ⟨gap, f⟩) rfl heard other malformed rfl
  · exact exec_malformed_onlyHeard (heading := ⟨gap, f⟩) rfl heard other malformed rfl

/-! ## Queries (R177 to R182) -/

theorem targetsSelf_iff (s : State) (target : Fin 31) :
    targetsSelf s target = true ↔ ∃ n : Station, s.cfg.self = some n ∧ numberOf n = target.val := by
  unfold targetsSelf
  cases s.cfg.self with
  | none => simp
  | some n => simp only [beq_iff_eq, Option.some.injEq, exists_eq_left', eq_comm (a := target.val)]

theorem targetsSelf_eq_false {s : State} {target : Fin 31} (h : ∀ n : Station, s.cfg.self = some n → numberOf n ≠ target.val) :
    targetsSelf s target = false := by
  rw [Bool.eq_false_iff, ne_eq, targetsSelf_iff]
  rintro ⟨n, self, number⟩
  exact h n self number

theorem exec_query {c : Instr} {heading : FrameHeading} {q : Query} {s u : State}
    (frame : deliveredFrame c = some (.query, heading, buildPayload (.query q))) (fits : contentFits (.query q) = true)
    (heard : hears heading.gap s = true) (other : ownField s ≠ some heading.sender)
    (answered : answerQuery heading.sender q (hearOnly heading.sender (frameStart s)) = u) : exec c s = .next (settleMembership u) :=
  exec_content (content := .query q) frame fits heard other answered

theorem targetsSelf_heard (f : StationField) (s : State) (target : Fin 31) :
    targetsSelf (hearOnly f (frameStart s)) target = targetsSelf s target := by simp [targetsSelf]

/-- The reply slot filled, with nothing else taken but that the sender was heard. -/
theorem received_request {s : State} {f : StationField} (other : ownField s ≠ some f) (r : ReplyRequest) :
    (settleMembership ((hearOnly f (frameStart s)).setResponder (some r))).responder = some r
      ∧ OnlyHeard f (s.setResponder (settleMembership ((hearOnly f (frameStart s)).setResponder (some r))).responder)
          (settleMembership ((hearOnly f (frameStart s)).setResponder (some r))) := by
  have slot : (settleMembership ((hearOnly f (frameStart s)).setResponder (some r))).responder = some r := by simp
  obtain ⟨-, -, points, transfer⟩ := hearOnly_eq (s := frameStart s) (f := f) fun n hf => by simpa using other_of_ownField other n hf
  refine ⟨slot, ?_⟩
  rw [slot]
  have taken : TakenFrame (frameStart (s.setResponder (some r))) ((hearOnly f (frameStart s)).setResponder (some r)) := by
    refine TakenFrame.trans (t := frameStart s) ?_ ((takenFrame_hearOnly f _).trans (takenFrame_setResponder _ _))
    constructor <;> rfl
  exact received_onlyHeard (v := frameStart s) (s := s.setResponder (some r)) other taken (by simp) (by simp) rfl (by simp)
    (by simp [points]) (by simp) (by simp [transfer]) (by simp)

/-- Settles O36: the slot is filled by a query for this station alone. -/
theorem queriesFillTheReplySlot : Obligations.QueriesFillTheReplySlot := by
  intro s gap f target half kind requester body heard other length
  refine ⟨fun own => ?_, fun alien => ?_, ?_⟩
  · have named : targetsSelf (hearOnly f (frameStart s)) target = true := by rw [targetsSelf_heard]; exact (targetsSelf_iff s target).2 own
    exact ⟨⟨_, exec_query (heading := ⟨gap, f⟩) rfl rfl heard other (if_pos named), received_request other _⟩,
      _, exec_query (heading := ⟨gap, f⟩) rfl rfl heard other (if_pos named), received_request other _⟩
  · have unnamed : ¬ targetsSelf (hearOnly f (frameStart s)) target = true := by rw [targetsSelf_heard, targetsSelf_eq_false alien]; nofun
    exact ⟨⟨_, exec_query (heading := ⟨gap, f⟩) rfl rfl heard other (if_neg unnamed), received_hearOnly other⟩,
      ⟨_, exec_query (heading := ⟨gap, f⟩) rfl rfl heard other (if_neg unnamed), received_hearOnly other⟩,
      _, exec_query (heading := ⟨gap, f⟩) rfl rfl heard other (if_neg unnamed), received_hearOnly other⟩
  · exact ⟨_, exec_content (heading := ⟨gap, f⟩) (content := .reply kind requester body) rfl (by simpa [contentFits] using length) heard other rfl,
      received_hearOnly other⟩

/-- A request for a region moves the transfer unit alone (R105, R106, R182). -/
theorem takeRegion_eq (w : Window) (s : State) : takeRegion w s = s.setTransfer (takeRegion w s).transfer := by
  unfold takeRegion
  split
  · split <;> rfl
  · rfl

/-- What a region request leaves of the transfer unit (R106, R182). -/
theorem takeRegion_transfer (w : Window) (s : State) :
    (takeRegion w s).transfer.contexts = s.transfer.contexts ∧ (takeRegion w s).transfer.transferDrops = s.transfer.transferDrops
      ∧ ((s.seq.state ≠ .synced ∨ windowValid w = false) →
          (takeRegion w s).transfer = { s.transfer with regionDrops := stepCounter s.transfer.regionDrops })
      ∧ (s.seq.state = .synced → windowValid w = true → s.transfer.job = .idle →
          (takeRegion w s).transfer = { s.transfer with job := .startPending w })
      ∧ (s.seq.state = .synced → windowValid w = true → s.transfer.job ≠ .idle →
          (takeRegion w s).transfer
            = { s.transfer with
                pendingRegion := some w
                regionDrops :=
                  if s.transfer.pendingRegion.isSome then stepCounter s.transfer.regionDrops else s.transfer.regionDrops }) := by
  by_cases asked : s.seq.state = .synced ∧ windowValid w = true
  · obtain ⟨synced, valid⟩ := asked
    simp only [takeRegion, synced, valid, and_self, if_true]
    cases job : s.transfer.job <;> cases region : s.transfer.pendingRegion <;> simp [startJob, region]
  · have refused : (takeRegion w s).transfer = { s.transfer with regionDrops := stepCounter s.transfer.regionDrops } := by
      rw [takeRegion, if_neg asked]
      rfl
    rw [refused]
    exact ⟨rfl, rfl, fun _ => rfl, fun synced valid => absurd ⟨synced, valid⟩ asked, fun synced valid => absurd ⟨synced, valid⟩ asked⟩

/-- The transfer unit written, with nothing else taken but that the sender was heard. -/
theorem received_setTransfer {s : State} {f : StationField} (other : ownField s ≠ some f) (x : TransferUnit) :
    (settleMembership ((hearOnly f (frameStart s)).setTransfer x)).transfer = x
      ∧ OnlyHeard f (s.setTransfer (settleMembership ((hearOnly f (frameStart s)).setTransfer x)).transfer)
          (settleMembership ((hearOnly f (frameStart s)).setTransfer x)) := by
  obtain ⟨-, -, points, -⟩ := hearOnly_eq (s := frameStart s) (f := f) fun n hf => by simpa using other_of_ownField other n hf
  have written : (settleMembership ((hearOnly f (frameStart s)).setTransfer x)).transfer = x :=
    (received_silent ((takenFrame_hearOnly f _).trans (takenFrame_setTransfer _ _)) (by simp [actsOn])).1
  refine ⟨written, ?_⟩
  rw [written]
  have taken : TakenFrame (frameStart (s.setTransfer x)) ((hearOnly f (frameStart s)).setTransfer x) := by
    refine TakenFrame.trans (t := frameStart s) ?_ ((takenFrame_hearOnly f _).trans (takenFrame_setTransfer _ _))
    constructor <;> rfl
  exact received_onlyHeard (v := frameStart s) (s := s.setTransfer x) other taken (by simp) (by simp) rfl (by simp)
    (by simp [points]) (by simp) (by simp) (by simp)

/-- Settles O37: `takeRegion_transfer`, behind the hearing. -/
theorem regionQueryStartsOrWaitsOrDrops : Obligations.RegionQueryStartsOrWaitsOrDrops := by
  intro s gap f target w heard other fits
  obtain ⟨-, -, -, transfer⟩ := hearOnly_eq (s := frameStart s) (f := f) fun n hf => by simpa using other_of_ownField other n hf
  have seq : (hearOnly f (frameStart s)).seq = s.seq := by simp
  have named : (targetsSelf (hearOnly f (frameStart s)) target || target.val == 0) = true
      ↔ (target.val = 0 ∨ ∃ n : Station, s.cfg.self = some n ∧ numberOf n = target.val) := by
    rw [targetsSelf_heard, Bool.or_eq_true, beq_iff_eq, targetsSelf_iff, or_comm]
  by_cases asked : target.val = 0 ∨ ∃ n : Station, s.cfg.self = some n ∧ numberOf n = target.val
  · have taken := received_setTransfer other (takeRegion w (hearOnly f (frameStart s))).transfer
    rw [← takeRegion_eq] at taken
    obtain ⟨written, onlyHeard⟩ := taken
    obtain ⟨contexts, drops, refused, started, held⟩ := takeRegion_transfer w (hearOnly f (frameStart s))
    rw [seq, transfer] at refused started held
    rw [transfer] at contexts drops
    rw [← written] at contexts drops refused started held
    refine ⟨_, exec_query (heading := ⟨gap, f⟩) rfl fits heard other (if_pos (named.2 asked)), onlyHeard, contexts, drops, fun h => ?_,
      fun _ => ⟨fun h => ?_, started, fun synced valid busy => ?_⟩⟩
    · rcases asked with zero | ⟨n, self, number⟩
      · exact absurd zero h.1
      · exact absurd number (h.2 n self)
    · rw [refused h]
      exact ⟨rfl, rfl, rfl⟩
    · rw [held synced valid busy]
      exact ⟨rfl, rfl, rfl⟩
  · obtain ⟨written, onlyHeard⟩ := received_setTransfer other (hearOnly f (frameStart s)).transfer
    have kept : (settleMembership (hearOnly f (frameStart s))).transfer = s.transfer := by
      exact written.trans transfer
    refine ⟨_, exec_query (heading := ⟨gap, f⟩) rfl fits heard other (if_neg fun h => asked (named.1 h)), onlyHeard, by rw [kept], by rw [kept],
      fun _ => kept, fun h => absurd h asked⟩

/-! ## RESTART (R102, R129, R162, R183) -/

theorem rebasedLine_debouncer (cfg : Configuration) (records : Records) (l : InputLine) (x : ScannedLine) :
    (rebasedLine cfg records l x).debouncer = x.debouncer := by
  unfold rebasedLine
  split
  · rfl
  · split <;> rfl

theorem rebasedLine_reported {cfg : Configuration} {records : Records} {l : InputLine} {p : PointIndex} {level : Level}
    (line : pointOfLine cfg l = some p) (implied : impliedLevel records[p].state = some level) (x : ScannedLine) :
    (rebasedLine cfg records l x).reported = level := by
  simp only [rebasedLine, line, implied]

/-- The timers behind a soft restart: each was put out of force, and counts anew where its condition holds (R162). -/
theorem settle_timers_of_idle {s : State} (t1 : s.timers.t1 = .idle) (t2 : s.timers.t2 = .idle) (t3 : s.timers.t3 = .idle) :
    (settle s).timers.t1 = (if t1Armed s then .counting s.cfg.t1ReloadMs else .idle)
      ∧ ((settle s).timers.t2 = .idle ∨ (settle s).timers.t2 = .counting s.cfg.t2ReloadMs)
      ∧ ((settle s).timers.t3 = .idle ∨ (settle s).timers.t3 = .counting s.cfg.t3ReloadMs) := by
  rw [settle_timers]
  simp only [settleTimers, State.timers_setTimers, t1, t2, t3, timerMoment, true_and]
  constructor
  · cases t2Armed s <;> simp
  · cases t3Armed s <;> simp

/-- Settles O38: `softRestart` behind the hearing. -/
theorem restartQueryRestartsSoftly : Obligations.RestartQueryRestartsSoftly := by
  intro s gap f n target heard other self number
  obtain ⟨-, disagreements, points, transfer⟩ := hearOnly_eq (s := frameStart s) (f := f) fun n hf => by simpa using other_of_ownField other n hf
  obtain ⟨x, hx⟩ : ∃ x, hearOnly f (frameStart s) = x := ⟨_, rfl⟩
  rw [hx] at disagreements points transfer
  have blocks : x.cfg = s.cfg ∧ x.scanner = s.scanner ∧ x.panel = s.panel ∧ x.loader = s.loader ∧ x.hold = s.hold ∧ x.pins = s.pins
      ∧ x.pending = s.pending ∧ x.lamp = s.lamp ∧ x.line = { s.line with attempt := none, drive := .recessive, awaitsGap := false } := by
    rw [← hx]
    simp [gapSeen]
  obtain ⟨cfg, scanner, panel, loader, hold, pins, pending, lamp, line⟩ := blocks
  have named : targetsSelf (hearOnly f (frameStart s)) target = true := by
    rw [targetsSelf_heard]
    exact (targetsSelf_iff s target).2 ⟨n, self, number⟩
  have restarted : answerQuery f (.restart target) (hearOnly f (frameStart s)) = softRestart x := by rw [← hx]; exact if_pos named
  have moment : settleMembership (softRestart x) = settle (repairTest (softRestart x)) := by
    rw [settleMembership, synchronise_of_ne (by rw [softRestart_lineState]; nofun)]
  have stale : anyStale (softRestart x) = false := by
    simp [anyStale_eq_false_iff, isStale, softRestart, clearedMembers, absentEntry]
  have members : (settleMembership (softRestart x)).members = (softRestart x).members := by
    rw [moment, (settle_keeps _).2.2.2.2.2.2.2.1, repairTest_members_eq, repairTest_flag, stale]
    simp [softRestart, clearedMembers]
  obtain ⟨t1, t2, t3⟩ := settle_timers_of_idle (s := repairTest (softRestart x)) (by simp [softRestart])
    (by simp [softRestart]) (by simp [softRestart])
  rw [← moment] at t1 t2 t3
  have esc : escAsserted (settleMembership (softRestart x)) = false := by
    rcases t2 with h | h <;> simp [escAsserted, h]
  have t0 : (settleMembership (softRestart x)).timers.t0 = .idle := by
    have armed := (armedAs_settle (repairTest (softRestart x))).1
    rw [moment]
    exact armed.2 (by simp [t0Armed, transmits])
  have setup : KeepsSetup s (settleMembership (softRestart x)) := by
    rw [moment]
    simp [KeepsSetup, loader, hold, pins, cfg, pending]
  have counts : KeepsCounts s (settleMembership (softRestart x)) := by
    rw [moment]
    simp [KeepsCounts, line]
  have restart_cfg : (repairTest (softRestart x)).cfg = s.cfg := by simp [cfg]
  rw [restart_cfg] at t1 t2 t3
  refine ⟨_, exec_query (heading := ⟨gap, f⟩) rfl rfl heard other restarted, ?_⟩
  rw [members]
  rw [moment] at t0 t1 t2 t3 esc setup counts ⊢
  refine ⟨?_, fun p => ?_, ?_, fun l => ?_, fun l p level used implied => ?_, ?_,
    ?_, ?_, ?_, ?_, ?_, ?_, ?_, fun m => ?_, ?_, ?_, ?_, fun m => ?_, rfl, rfl, disagreements, ?_, t0, ?_, t2, t3, esc, counts, ?_, setup⟩
  · simp [softRestart, enterListening, listenMs, cfg]
  · simp only [settle_keeps, repairTest_keeps, softRestart_points, loseOthers_get, cfg, points]
    rfl
  · simp [softRestart]
  · simp [softRestart, rebasedLine_debouncer, scanner]
  · have level_of := rebasedLine_reported used implied s.scanner.lines[l]
    simpa [softRestart, cfg, points, scanner] using level_of
  · rw [settle_panel]
    simp [softRestart]
  · rw [settle_panel]
    simp [softRestart, panel]
  · rw [settle_panel]
    simp [softRestart, panel]
  · rw [settle_panel]
    simp [softRestart, panel]
  · rw [settle_panel]
    simp [softRestart, panel]
  · rw [settle_panel]
    simp [softRestart, panel]
  · simp [softRestart, clearedTransfer]
  · simp [softRestart, clearedTransfer]
  · simp [softRestart, clearedTransfer]
  · simp [softRestart, clearedTransfer, transfer]
  · simp [softRestart, clearedTransfer, transfer]
  · simp [softRestart]
  · simp [softRestart, clearedMembers]
  · rw [settle_presencePending]
    simp [softRestart]
  · rw [t1]
    by_cases zero : s.cfg.t1ReloadMs = 0 <;> simp [t1Armed, panelRuns, zero, cfg]
  · simp [lamp]

end Sys2Proof.Machine
end

section
/-! PROOFS. The expiries of the sequencer's timers, of the ages and of the activity timers (R45, R78, R92, R96, R153, R170). -/

namespace Sys2Proof.Machine

open Sys2Proof

/-! ## The listen timer and the hold-off (R45, R92) -/

theorem exec_listenTimerExpiry_due {s : State} (state : s.seq.state = .listening) (due : s.seq.listenTimer = some 0) :
    exec .listenTimerExpiry s
      = .next (settle ((newMoment s).setSeq { s.seq with state := .joining, listenTimer := none, joinPending := true })) :=
  if_pos ⟨state, due⟩

theorem exec_holdOffExpiry_due {s : State} (state : s.seq.state = .withdrawn) (due : s.line.holdOff = some 0) :
    exec .holdOffExpiry s = .next (settle (enterListening .afterWithdrawal (awaitGap ((newMoment s).setLine { s.line with holdOff := none })))) :=
  if_pos ⟨state, due⟩

/-- T0 starts from P as a station comes to transmit (R155). -/
theorem settle_t0_of_armed {s : State} (sends : transmits s.seq.state = true) (idle : s.timers.t0 = .idle) :
    (settle s).timers.t0 = .counting s.cfg.presenceMs := by
  rw [settle_timers]
  simp only [settleTimers, State.timers_setTimers, t0Armed, sends, idle, timerMoment, if_true]

/-- Settles O39: both moments, block by block. -/
theorem listenAndHoldOffExpiries : Obligations.ListenAndHoldOffExpiries := by
  refine ⟨fun s state due idle => ⟨_, exec_listenTimerExpiry_due state due, by simp, ?_, ?_, by simp, by simp, by simp, by simp, by simp, by simp,
      by simp, keepsPanel_settle (by simp), by simp [KeepsSetup]⟩,
    fun s state due => ⟨_, exec_holdOffExpiry_due state due, ?_, ?_, fun p => ?_, by simp, by simp, by simp, by simp, by simp,
      keepsPanel_settle (by simp), by simp [KeepsSetup]⟩,
    fun s => ⟨fun none_due => if_neg ?_, fun none_due => if_neg ?_⟩⟩
  · rw [settle_t0_of_armed (by simp [transmits]) (by simpa using idle)]
    simp
  · rw [settle_presencePending]
    simp
  · simp [enterListening, listenMs]
  · simp [awaitGap]
  · simp only [settle_keeps, enterListening, State.points_setSeq, State.points_setPoints, awaitGap, State.cfg_setLine, State.points_setLine,
      newMoment_keeps]
    exact loseOthers_get ..
  · rintro ⟨state, due⟩
    exact none_due.elim (absurd state) (absurd due)
  · rintro ⟨state, due⟩
    exact none_due.elim (absurd state) (absurd due)

/-! ## The sync timer (R96, R97) -/

theorem exec_syncTimerExpiry_due {s : State} (state : s.seq.state = .syncing) (due : s.seq.syncTimer = some 0) :
    exec .syncTimerExpiry s = .next (settle (repairTest (enterSynced (newMoment s)))) :=
  if_pos ⟨state, due⟩

theorem foundsCount_newMoment (s : State) : foundsCount (newMoment s) = foundsCount s := by
  simp [foundsCount, isStale, isPresent]

/-- Settles O40: the entry to SYNCED, whatever entries are STALE. -/
theorem syncExpiryEntersSynced : Obligations.SyncExpiryEntersSynced := by
  refine ⟨fun s none_due => if_neg ?_, fun s state due => ⟨_, exec_syncTimerExpiry_due state due, ?_, fun known => ?_,
      fun invalid unheard alone => ?_,
    ?_, ?_, by simp, fun free => ?_, by simp, by simp, by simp, by simp, keepsPanel_settle (by simp), by simp [KeepsSetup]⟩⟩
  · rintro ⟨state, due⟩
    exact none_due.elim (absurd state) (absurd due)
  · simp [enterSynced_seq]
  · have kept : foundsCount s = false := by
      rw [Bool.eq_false_iff, ne_eq, foundsCount_iff]
      rintro ⟨invalid, unheard, stale, present⟩
      rcases known with valid | heard | ⟨n, isStale | isPresent⟩
      · simp [valid] at invalid
      · simp [heard] at unheard
      · simp [(anyStale_eq_false_iff s).1 stale n] at isStale
      · simp [present n] at isPresent
    simp [enterSynced_seq, foundsCount_newMoment, kept]
  · have founds : foundsCount s = true :=
      (foundsCount_iff s).2 ⟨invalid, unheard, (anyStale_eq_false_iff s).2 fun n => (alone n).1, fun n => (alone n).2⟩
    simp [enterSynced_seq, foundsCount_newMoment, founds]
  · simp [enterSynced_transfer]
  · simp [enterSynced_scanner]
  · exact (repairTested_repairTest (by simpa using free) (by simp) (by simp)).settle

/-! ## The absent timeout (R78) -/

theorem newMoment_members (s : State) : (newMoment s).members = s.members := rfl

theorem repairOnLine_of_other {s : State} (h : ∀ a : Attempt, s.line.attempt = some a → a.source ≠ .membershipTable) : repairOnLine s = false := by
  unfold repairOnLine
  split
  · next a attempt => exact beq_eq_false_iff_ne.2 (h a attempt)
  · rfl

theorem repairOnLine_of_query {s : State} {a : Attempt} (attempt : s.line.attempt = some a) (source : a.source = .membershipTable) :
    repairOnLine s = true := by
  rw [repairOnLine, attempt]
  exact beq_iff_eq.2 source

theorem exec_absentTimeout_due {s : State} {n : Station} (receiving : receives s.seq.state = true) (other : s.cfg.self ≠ some n)
    (known : s.members.entries[n].state ≠ .absent) (due : 4 * s.cfg.presenceMs ≤ s.members.entries[n].ageMs) :
    exec (.absentTimeout n) s
      = .next
          (settleMembership (moveEntry n { state := .absent, ageMs := 0, lastDigest := s.members.entries[n].lastDigest } (newMoment s))) :=
  if_pos ⟨receiving, other, known, due⟩

/-- The repair query flag stays set while an attempt of the query is on the line (R84). -/
theorem repairTest_kept {s : State} (line : repairOnLine s = true) (flag : s.members.repairFlag = true) : (repairTest s).members = s.members := by
  rw [repairTest_members_eq, repairTest_flag, if_pos flag, line, Bool.or_true, ← flag]

/-- Settles O42: the move of the entry to ABSENT, at its moment. -/
theorem absentTimeoutLosesTheStation : Obligations.AbsentTimeoutLosesTheStation := by
  refine ⟨fun s n young => if_neg ?_, fun s n receiving other known due => ?_⟩
  · rintro ⟨-, -, -, due⟩
    exact absurd due (Nat.not_le.2 young)
  have lost : MemberState.absent ≠ s.members.entries[n].state ∧ (MemberState.absent = .absent ∨ MemberState.absent = .mismatch) :=
    ⟨known.symm, .inl rfl⟩
  obtain ⟨u, hu⟩ : ∃ u, moveEntry n { state := .absent, ageMs := 0, lastDigest := s.members.entries[n].lastDigest } (newMoment s) = u := ⟨_, rfl⟩
  have members : u.members = { s.members with
      entries := s.members.entries.set n { state := .absent, ageMs := 0, lastDigest := s.members.entries[n].lastDigest } } := by
    rw [← hu, moveEntry_entries]
    simp
  have blocks : u.line = s.line ∧ u.lamp = s.lamp ∧ u.responder = s.responder ∧ u.panel = s.panel ∧ u.seq = s.seq ∧ u.scanner = s.scanner
      ∧ KeepsSetup s u := by
    rw [← hu]
    simp [KeepsSetup]
  obtain ⟨line, lamp, responder, panel, seq, scanner, loader, hold, pins, cfg, pending⟩ := blocks
  have points (p : PointIndex) : u.points[p] = if s.cfg.points[p].owner = some n then lose s.points[p] else s.points[p] := by
    have moved : u.points = loseOwner s.cfg n s.points := by
      rw [← hu, moveEntry_points, newMoment_members, if_pos lost]
      simp
    rw [moved]
    exact loseOwner_get_other other s.points p
  have transfer : u.transfer = { s.transfer with contexts := s.transfer.contexts.set n none } := by
    rw [← hu, moveEntry_transfer, newMoment_members, if_pos lost]
    simp
  have raised : u.raised = classMembership := by
    rw [← hu, moveEntry_raised, newMoment_members, if_neg lost.1]
    exact BitVec.zero_or
  obtain ⟨entry, others⟩ := entry_of_set (s := s) (u := u) (by rw [members])
  refine ⟨settleMembership u, by rw [exec_absentTimeout_due receiving other known due, hu], entry, others, fun p => ?_, ?_, fun m hm => ?_, ?_, ?_,
    fun free => ?_, fun a attempt source flag => ?_, by simpa using line, by simpa using lamp, by simpa using responder,
        keepsPanel_settleMembership panel,
    ?_, fun state => ?_⟩
  · simpa using points p
  · rw [settleMembership_contexts, transfer]
    exact set_get_self ..
  · rw [settleMembership_contexts, transfer]
    exact set_get_other _ _ _ _ hm
  · simp [transfer]
  · simp [raised]
  · exact (repairTested_of_line (repairOnLine_of_other (by simpa [line] using free)) (by simp [members]) (by simp [members])).settle
  · have onLine : repairOnLine (synchronise u) = true := repairOnLine_of_query (a := a) (by simpa [line] using attempt) source
    rw [settleMembership, (settle_keeps _).2.2.2.2.2.2.2.1, repairTest_kept onLine (by simpa [members] using flag)]
    simp [members, flag]
  · simp [KeepsSetup, loader, hold, pins, cfg, pending]
  · obtain ⟨t_transfer, t_scanner, t_seq⟩ := settleMembership_of_unsynchronised (synchronise_of_ne (s := u) (by rw [seq]; exact state))
    rw [KeepsJob, t_transfer, t_scanner, t_seq, transfer]
    exact ⟨seq, scanner, rfl, rfl, rfl⟩

/-! ## The activity timers and the lamp test (R153, R170) -/

theorem settleHorn_panel_keeps {s u : State} (h : u.panel = s.panel) : KeepsPanel s (settleHorn u) := by
  rw [settleHorn, KeepsPanel, State.panel_setPanel, h]
  exact ⟨rfl, rfl, rfl, rfl, rfl, rfl⟩

theorem exec_activityTimerExpiry_due {s : State} {timer : ActivityTimer} (due : timerOf s.timers timer = .counting 0) :
    exec (.activityTimerExpiry timer) s = .next (settleHorn ((newMoment s).setTimers (withTimer s.timers timer .expired))) :=
  if_pos due

/-- Settles O44: each expiry, and the horn behind it. -/
theorem expiriesPutEffectsInForce : Obligations.ExpiriesPutEffectsInForce := by
  refine fun s => ⟨fun h => if_neg h, fun h => if_neg h, fun h => if_neg h, fun h => if_neg h,
    fun due horn => ⟨_, exec_activityTimerExpiry_due due, by simp [withTimer], by simp [brightness, withTimer], ?_, by simp, by simp, by simp,
        by simp,
      by simp, by simp, by simp, by simp, settleHorn_panel_keeps (by simp), by simp [KeepsSetup]⟩,
    fun due horn => ⟨_, exec_activityTimerExpiry_due due, by simp [withTimer], by simp [escAsserted, withTimer], ?_, by simp, by simp, by simp,
        by simp,
      by simp, by simp, by simp, by simp, settleHorn_panel_keeps (by simp), by simp [KeepsSetup]⟩,
    fun due => ⟨_, exec_activityTimerExpiry_due due, by simp [withTimer], ?_, by simp, by simp, by simp, by simp, by simp,
      by simp, by simp, by simp, by simp, settleHorn_panel_keeps (by simp), by simp [KeepsSetup]⟩, fun due => if_pos due⟩
  · rw [settleHorn_horn, horn]
    simp [hornPattern, withTimer]
  · rw [settleHorn_horn, horn]
    simp [hornPattern, withTimer]
  · rw [settleHorn_horn]
    simp [hornPattern, withTimer]

end Sys2Proof.Machine
end

section
/-! PROOFS. The end of SYNCING: MEMBERSHIP is raised exactly where an entry moves (R80), and a move that leaves none STALE ends it (R96). -/

namespace Sys2Proof.Machine

open Sys2Proof

/-! ## A frame's content moves at most one entry (R71, R80) -/

/-- Some entry moved. -/
def EntryMoved (s u : State) : Prop := ∃ n : Station, u.members.entries[n].state ≠ s.members.entries[n].state

/-- MEMBERSHIP is raised where an entry moved and nowhere else, and the snapshot job stands. -/
structure MarksMoves (s u : State) : Prop where
  marked : actsOn u.raised classMembership = true ↔ EntryMoved s u
  job : u.transfer.job = s.transfer.job

/-- The membership table, the snapshot job and the MEMBERSHIP class are as they were. -/
structure KeepsMoves (s u : State) : Prop where
  entries : u.members.entries = s.members.entries
  job : u.transfer.job = s.transfer.job
  raised : actsOn u.raised classMembership = actsOn s.raised classMembership

theorem KeepsMoves.refl (s : State) : KeepsMoves s s := ⟨rfl, rfl, rfl⟩

theorem MarksMoves.after {s u v : State} (h : MarksMoves s u) (g : KeepsMoves u v) : MarksMoves s v := by
  refine ⟨?_, g.job.trans h.job⟩
  rw [g.raised, h.marked, EntryMoved, EntryMoved, g.entries]

theorem MarksMoves.before {s v u : State} (entries : v.members.entries = s.members.entries) (job : v.transfer.job = s.transfer.job)
    (h : MarksMoves v u) : MarksMoves s u := by
  refine ⟨?_, h.job.trans job⟩
  rw [h.marked, EntryMoved, EntryMoved, entries]

theorem marksMoves_same {s : State} (silent : actsOn s.raised classMembership = false) : MarksMoves s s :=
  ⟨by simp [silent, EntryMoved], rfl⟩

theorem actsOn_or (a b mask : Byte) : actsOn (a ||| b) mask = (actsOn a mask || actsOn b mask) := by
  have split : (a ||| b) &&& mask = 0#8 ↔ a &&& mask = 0#8 ∧ b &&& mask = 0#8 := by
    rw [BitVec.and_or_distrib_right, BitVec.or_eq_zero_iff]
  rw [Bool.eq_iff_iff]
  simp only [actsOn, bne_iff_ne, ne_eq, Bool.or_eq_true]
  tauto

theorem marksMoves_moveEntry {s : State} (silent : actsOn s.raised classMembership = false) (n : Station) (e : MemberEntry) :
    MarksMoves s (moveEntry n e s) := by
  have moved : EntryMoved s (moveEntry n e s) ↔ e.state ≠ s.members.entries[n].state := by
    unfold EntryMoved
    simp only [moveEntry_entries]
    refine ⟨fun ⟨m, h⟩ => ?_, fun h => ⟨n, by rw [set_get_self]; exact h⟩⟩
    by_cases e : m = n
    · subst e
      rwa [set_get_self] at h
    · rw [set_get_other _ _ _ _ e] at h
      exact absurd rfl h
  refine ⟨?_, ?_⟩
  · rw [moved, moveEntry_raised, actsOn_or, silent]
    split
    · next same => simp [same, actsOn]
    · next differs => simp only [differs, not_false_eq_true, iff_true, ne_eq]; decide
  · rw [moveEntry_transfer]
    split <;> rfl

theorem marksMoves_hear {s : State} (silent : actsOn s.raised classMembership = false) (f : StationField) (h : Heard) (o : DigestOutcome)
    (d : Option Word) : MarksMoves s (hear f h o d s) := by
  rcases hear_cases f h o d s with e | ⟨n, -, -, e⟩ <;> rw [e]
  · exact marksMoves_same silent
  · exact marksMoves_moveEntry silent _ _

/-- A frame heard behind steps that leave the table: what marks the moves of the whole. -/
theorem marksMoves_heard {s v u : State} {f : StationField} {h : Heard} {o : DigestOutcome} {d : Option Word}
    (silent : actsOn s.raised classMembership = false) (before : KeepsMoves s v) (after : KeepsMoves (hear f h o d v) u) : MarksMoves s u :=
  (MarksMoves.before before.entries before.job (marksMoves_hear (before.raised.trans silent) f h o d)).after after

theorem keepsMoves_countPoint (s : State) : KeepsMoves s (countPoint s) := ⟨rfl, rfl, rfl⟩

theorem keepsMoves_setPoints (s : State) (x : Records) : KeepsMoves s (s.setPoints x) := ⟨rfl, rfl, rfl⟩

theorem KeepsMoves.trans {s t u : State} (h : KeepsMoves s t) (g : KeepsMoves t u) : KeepsMoves s u :=
  ⟨g.entries.trans h.entries, g.job.trans h.job, g.raised.trans h.raised⟩

theorem keepsMoves_raise {c : Byte} (h : actsOn c classMembership = false) (s : State) : KeepsMoves s (raise c s) :=
  ⟨rfl, rfl, by change actsOn (s.raised ||| c) _ = _; rw [actsOn_or, h, Bool.or_false]⟩

theorem alertClasses_membership (cfg : Configuration) (p : PointIndex) (a b : PointState) :
    actsOn (alertClasses cfg p a b) classMembership = false := by
  unfold alertClasses
  split
  · cases inControlSet cfg p <;> decide
  · decide

theorem keepsMoves_writePoint (f : StationField) (p : PointIndex) (w : WireRecord) (d : Word) (s : State) :
    KeepsMoves s (writePoint f p w d s) := by
  unfold writePoint
  split
  · exact .refl s
  · split
    · split
      · exact .refl s
      · exact (keepsMoves_setPoints _ _).trans (keepsMoves_raise (alertClasses_membership ..) _)
    · exact .refl s

theorem keepsMoves_adoptCount (f : StationField) (carried : Word) (count : Option Word) (s : State) :
    KeepsMoves s (adoptCount f carried count s) := by
  unfold adoptCount
  split
  · exact .refl s
  · split
    · exact ⟨rfl, rfl, rfl⟩
    · exact .refl s

theorem keepsMoves_dropTransfer (n : Station) (s : State) : KeepsMoves s (dropTransfer n s) := ⟨rfl, rfl, rfl⟩

/-! ## Every content -/

theorem marksMoves_takeOperator {s : State} (silent : actsOn s.raised classMembership = false) (f : StationField) (op : Operation)
    (groups horizon d : Word) : MarksMoves s (takeOperator f op groups horizon d s) := by
  unfold takeOperator
  split
  · exact marksMoves_heard silent (.refl s) ((keepsMoves_setPoints _ _).trans (keepsMoves_raise (by decide) _))
  · exact marksMoves_hear silent _ _ _ _

theorem marksMoves_takeStart {s : State} (silent : actsOn s.raised classMembership = false) (f : StationField) (w : Window) (total : Nat)
    (count : Option Word) (d : Word) : MarksMoves s (takeStart f w total count d s) := by
  unfold takeStart
  split
  · exact marksMoves_same silent
  · exact marksMoves_heard silent (v := setContext _ _ s) ⟨rfl, rfl, rfl⟩ (keepsMoves_adoptCount ..)

theorem marksMoves_takeData {s : State} (silent : actsOn s.raised classMembership = false) (f : StationField) (part : Nat) (last : Bool)
    (ws : List WireRecord) : MarksMoves s (takeData f part last ws s) := by
  have dropped (n : Station) (h : Heard) (o : DigestOutcome) : MarksMoves s (hear f h o none (dropTransfer n s)) :=
    marksMoves_heard silent (keepsMoves_dropTransfer n s) (.refl _)
  unfold takeData
  split
  · exact marksMoves_same silent
  · split
    · exact dropped ..
    · split
      · exact marksMoves_heard silent (v := followPart _ _ ws s) ⟨rfl, rfl, rfl⟩ (.refl _)
      · exact dropped ..

theorem marksMoves_takePresence {s : State} (silent : actsOn s.raised classMembership = false) (f : StationField) (d : Word)
    (count : Option Word) (peer : LineState) : MarksMoves s (takePresence f d count peer s) := by
  refine marksMoves_heard silent ?_ (keepsMoves_adoptCount ..)
  split
  · exact ⟨rfl, rfl, rfl⟩
  · exact .refl s

theorem marksMoves_takeJoin {s : State} (silent : actsOn s.raised classMembership = false) (syncing : s.seq.state = .syncing)
    (f : StationField) (d : Word) : MarksMoves s (takeJoin f d s) := by
  have unanswered : answerJoin f d s = s := if_neg fun h => by rw [syncing] at h; cases h.1
  rw [takeJoin, unanswered]
  exact marksMoves_hear silent _ _ _ _

theorem marksMoves_takeMalformed {s : State} (silent : actsOn s.raised classMembership = false) (cls : FrameClass) (f : StationField) :
    MarksMoves s (takeMalformed cls f s) := by
  have heard : MarksMoves s (hearOnly f s) := marksMoves_hear silent _ _ _ _
  cases cls with
  | point => exact marksMoves_heard silent (keepsMoves_countPoint s) (.refl _)
  | snapshot =>
    cases signed : stationOfField f with
    | none => simpa only [takeMalformed, signed] using marksMoves_same silent
    | some n => simpa only [takeMalformed, signed] using marksMoves_heard silent (keepsMoves_dropTransfer n s) (.refl (hearOnly f _))
  | operator | join | presence | query | reply => exact heard
  | unassigned => exact marksMoves_same silent

/-- A frame of a class that may move an entry, at a station that is SYNCING. -/
theorem marksMoves_takePayload {s : State} (silent : actsOn s.raised classMembership = false) (syncing : s.seq.state = .syncing)
    {cls : FrameClass} (moves : ¬ (cls = .query ∨ cls = .reply)) (f : StationField) (payload : List Byte) :
    MarksMoves s (takePayload cls f payload s) := by
  unfold takePayload
  cases h : readPayload cls payload with
  | none => exact marksMoves_takeMalformed silent cls f
  | some content =>
    have read := classOf_readPayload h
    cases content with
    | point p w d => exact marksMoves_heard silent (keepsMoves_countPoint s) (keepsMoves_writePoint ..)
    | operator op groups horizon d => exact marksMoves_takeOperator silent ..
    | join d _ => exact marksMoves_takeJoin silent syncing f d
    | start w total count d => exact marksMoves_takeStart silent ..
    | data part last ws => exact marksMoves_takeData silent ..
    | presence d count peer => exact marksMoves_takePresence silent ..
    | query q => exact absurd (.inl read.symm) moves
    | reply _ _ _ => exact absurd (.inr read.symm) moves

theorem takenFrame_of_class {cls : FrameClass} (moves : ¬ (cls = .query ∨ cls = .reply)) (f : StationField) (payload : List Byte) (s : State) :
    TakenFrame s (takePayload cls f payload s) := by
  rcases takePayload_cases cls f payload s with ⟨t, read, -⟩ | taken
  · exact absurd (.inl (classOf_readPayload read).symm) moves
  · exact taken

theorem frame_of_movesMembership {c : Instr} (moves : movesMembership c = true) :
    ∃ cls heading payload, deliveredFrame c = some (cls, heading, payload) ∧ ¬ (cls = .query ∨ cls = .reply) := by
  unfold movesMembership at moves
  split at moves
  case h_7 => cases moves
  all_goals exact ⟨_, _, _, rfl, by simp⟩

/-! ## The end of SYNCING (R96) -/

/-- What a moment of a SYNCING station comes to: its end where an entry moved and none is STALE, and nothing else of the sequencer's. -/
def EndsSyncing (s t : State) : Prop :=
  ((EntryMoved s t ∧ anyStale t = false) →
    t.seq.state = .synced ∧ t.seq.syncTimer = none ∧ t.transfer.job = .startPending wholeGrid ∧ t.transfer.pendingRegion = none
      ∧ t.scanner = reconcileRounds s.cfg 24 s.scanner)
  ∧ (¬ (EntryMoved s t ∧ anyStale t = false) →
    t.seq.state = .syncing ∧ t.seq.syncTimer = s.seq.syncTimer ∧ t.scanner = s.scanner ∧ t.transfer.job = s.transfer.job)

theorem endsSyncing_self {s : State} (syncing : s.seq.state = .syncing) : EndsSyncing s s :=
  ⟨fun ⟨⟨_, moved⟩, _⟩ => absurd rfl moved, fun _ => ⟨syncing, rfl, rfl, rfl⟩⟩

theorem endsSyncing_settleMembership {s u : State} (syncing : s.seq.state = .syncing) (marks : MarksMoves s u) (state : u.seq.state = s.seq.state)
    (timer : u.seq.syncTimer = s.seq.syncTimer) (cfg : u.cfg = s.cfg) (scanner : u.scanner = s.scanner) : EndsSyncing s (settleMembership u) := by
  have moved : EntryMoved s (settleMembership u) ↔ actsOn u.raised classMembership = true := by
    rw [marks.marked, EntryMoved, EntryMoved, settleMembership_entries]
  have stale : anyStale (settleMembership u) = anyStale u := anyStale_congr (by simp) (by simp)
  rw [EndsSyncing, moved, stale]
  refine ⟨fun ⟨acts, settled⟩ => ?_, fun stays => ?_⟩
  · have ends : synchronise u = enterSynced u := if_pos ⟨state.trans syncing, acts, by simp [settled]⟩
    simp [settleMembership, ends, enterSynced_seq, enterSynced_transfer, enterSynced_scanner, cfg, scanner]
  · have still : synchronise u = u := if_neg fun ⟨_, acts, settled⟩ => stays ⟨acts, by simpa using settled⟩
    obtain ⟨t_transfer, t_scanner, t_seq⟩ := settleMembership_of_unsynchronised still
    rw [t_seq, t_scanner, t_transfer]
    exact ⟨state.trans syncing, timer, scanner, marks.job⟩

/-- A frame that may move an entry, at a SYNCING station that it does not halt. -/
theorem endsSyncing_frame {s t : State} {c : Instr} (syncing : s.seq.state = .syncing) (moves : movesMembership c = true)
    (h : exec c s = .next t) (running : t.seq.state ≠ .halted) : EndsSyncing s t := by
  obtain ⟨cls, heading, payload, frame, other⟩ := frame_of_movesMembership moves
  rw [exec_deliveredFrame frame, frameEnds] at h
  by_cases heard : hears heading.gap s = true
  · rw [whenHeard, if_pos heard] at h
    split at h <;> cases h
    · exact absurd (by simp [enterHalted]) running
    · have taken := takenFrame_of_class other heading.sender payload (frameStart s)
      exact endsSyncing_settleMembership syncing
        (MarksMoves.before (v := frameStart s) (by simp) (by simp)
          (marksMoves_takePayload (by simp [actsOn]) (by simpa using syncing) other heading.sender payload))
        (by simpa using taken.lineState) (by simpa using taken.syncTimer) (by simp) (by simpa using taken.scanner)
  · rw [whenHeard, if_neg heard] at h
    cases h
    exact endsSyncing_self syncing

theorem newMoment_silent (s : State) (mask : Byte) : actsOn (newMoment s).raised mask = false := by simp [actsOn, newMoment]

theorem endsSyncing_absent {s t : State} {n : Station} (syncing : s.seq.state = .syncing) (h : exec (.absentTimeout n) s = .next t) :
    EndsSyncing s t := by
  change execAbsentTimeout n s = _ at h
  unfold execAbsentTimeout at h
  split at h <;> cases h
  · exact endsSyncing_settleMembership syncing (MarksMoves.before (v := newMoment s) rfl rfl (marksMoves_moveEntry (newMoment_silent s _) _ _))
      (by simp) (by simp)
      (by simp) (by simp)
  · exact endsSyncing_self syncing

/-- Settles O41: both kinds of command. -/
theorem lastStaleEntryEndsSyncing : Obligations.LastStaleEntryEndsSyncing := by
  rintro s t c syncing (moves | absent) h running
  · exact endsSyncing_frame syncing moves h running
  · cases c with
    | absentTimeout n => exact endsSyncing_absent syncing h
    | _ => cases absent

end Sys2Proof.Machine
end

section
/-! PROOFS. Samples and settlings of field inputs and buttons (R116 to R121, R131 to R138, R142). -/

namespace Sys2Proof.Machine

open Sys2Proof

/-! ## Debouncing (R118, R132) -/

theorem takeSample_raw {α : Type} [DecidableEq α] (time : Nat) (level : α) (d : Debouncer α) : (takeSample time level d).raw = level := by
  have steady (d : Debouncer α) : (steadySample time level d).raw = level := by
    unfold steadySample
    split <;> [rfl; split <;> rfl]
  unfold takeSample
  split
  · exact steady d
  · split <;> [split; skip]
    · exact steady _
    · rfl
    · rfl

/-- A sample at the stable level, before the instant of an expiry, brings the debouncer to rest. -/
theorem takeSample_rest {α : Type} [DecidableEq α] (time : Nat) {d : Debouncer α} (h : d.settling ≠ some 0) :
    takeSample time d.stable d = { d with raw := d.stable, settling := none } := by
  cases settling : d.settling with
  | none => rw [takeSample_steady time _ settling, steadySample, if_pos rfl]
  | some ms =>
    cases ms with
    | zero => exact absurd settling h
    | succ ms => exact takeSample_back time settling

/-- A sample away from the stable level starts a settling (R118, R132). -/
theorem takeSample_starts {α : Type} [DecidableEq α] {time : Nat} {level : α} {d : Debouncer α} (steady : d.settling = none)
    (away : level ≠ d.stable) (slow : time ≠ 0) : takeSample time level d = { d with raw := level, settling := some time } := by
  rw [takeSample_steady time _ steady, steadySample, if_neg away, if_neg slow]

/-- With a debounce time of 0 it is settled at once (R118). -/
theorem takeSample_at_once {α : Type} [DecidableEq α] {level : α} {d : Debouncer α} (steady : d.settling = none) (away : level ≠ d.stable) :
    takeSample 0 level d = { raw := level, stable := level, settling := none } := by
  rw [takeSample_steady 0 _ steady, steadySample, if_neg away, if_pos rfl]

/-! ## Reconciliation (R121) -/

theorem appendReport_debouncer (scanner : InputScanner) (l m : InputLine) :
    (appendReport scanner l).lines[m].debouncer = scanner.lines[m].debouncer := by
  unfold appendReport
  by_cases h : m = l
  · subst h
    rw [set_get_self]
  · rw [set_get_other _ _ _ _ h]

theorem reconcileRounds_debouncer (cfg : Configuration) (rounds : Nat) (scanner : InputScanner) (m : InputLine) :
    (reconcileRounds cfg rounds scanner).lines[m].debouncer = scanner.lines[m].debouncer := by
  induction rounds generalizing scanner with
  | zero => rfl
  | succ n ih =>
    rw [reconcileRounds]
    split
    · split
      · rfl
      · rw [ih, appendReport_debouncer]
    · rfl

theorem reconcile_debouncer (s : State) (m : InputLine) : (reconcile s).scanner.lines[m].debouncer = s.scanner.lines[m].debouncer := by
  unfold reconcile
  split
  · exact reconcileRounds_debouncer ..
  · rfl

theorem reconcileRounds_of_reported {cfg : Configuration} {scanner : InputScanner} (h : ∀ m, isUnreported cfg scanner m = false) (rounds : Nat) :
    reconcileRounds cfg rounds scanner = scanner := by
  have none : allLines.find? (isUnreported cfg scanner) = none := List.find?_eq_none.2 fun m _ => by simp [h m]
  cases rounds with
  | zero => rfl
  | succ n => simp only [reconcileRounds, none, ite_self]

/-- With one line unreported and room in the queue, that line is reported. -/
theorem reconcileRounds_of_one {cfg : Configuration} {scanner : InputScanner} {l : InputLine} (room : scanner.queue.length < reportCapacity)
    (one : isUnreported cfg scanner l = true) (others : ∀ m, m ≠ l → isUnreported cfg scanner m = false) (rounds : Nat) :
    reconcileRounds cfg (rounds + 1) scanner = appendReport scanner l := by
  have found : allLines.find? (isUnreported cfg scanner) = some l := by
    obtain ⟨m, hm⟩ : ∃ m, allLines.find? (isUnreported cfg scanner) = some m :=
      Option.isSome_iff_exists.1 (List.find?_isSome.2 ⟨l, List.mem_finRange l, one⟩)
    have unreported := List.find?_some hm
    by_contra other
    have := others m fun e => other (e ▸ hm)
    simp [this] at unreported
  have reported : ∀ m, isUnreported cfg (appendReport scanner l) m = false := fun m => by
    by_cases h : m = l
    · subst h
      simp [isUnreported, appendReport]
    · have kept := others m h
      simp only [isUnreported, appendReport] at kept ⊢
      rw [set_get_other _ _ _ _ h]
      exact kept
  simp only [reconcileRounds, if_pos room, found]
  exact reconcileRounds_of_reported reported rounds

/-! ## A line that takes a debouncer (R119) -/

theorem setLineDebouncer_debouncer (l : InputLine) (d : Debouncer Level) (s : State) (m : InputLine) :
    (setLineDebouncer l d s).scanner.lines[m].debouncer = if m = l then d else s.scanner.lines[m].debouncer := by
  simp only [setLineDebouncer, State.scanner_setScanner]
  by_cases h : m = l
  · subst h
    rw [set_get_self, if_pos rfl]
  · rw [set_get_other _ _ _ _ h, if_neg h]

theorem lineDebounced_debouncer (l : InputLine) (d : Debouncer Level) (s : State) (m : InputLine) :
    (lineDebounced l d s).scanner.lines[m].debouncer = if m = l then d else s.scanner.lines[m].debouncer := by
  unfold lineDebounced
  split
  · exact setLineDebouncer_debouncer l d s m
  · rw [reconcile_debouncer]
    exact setLineDebouncer_debouncer l d s m

theorem lineDebounced_raised (l : InputLine) (d : Debouncer Level) (s : State) :
    (lineDebounced l d s).raised = if d.stable = s.scanner.lines[l].debouncer.stable then s.raised else s.raised ||| classInput := by
  unfold lineDebounced
  split <;> simp [raise]

/-- A debouncer that keeps its stable level reports nothing. -/
theorem lineDebounced_scanner_of_stable {l : InputLine} {d : Debouncer Level} {s : State} (h : d.stable = s.scanner.lines[l].debouncer.stable) :
    (lineDebounced l d s).scanner = { s.scanner with lines := s.scanner.lines.set l { s.scanner.lines[l] with debouncer := d } } := by
  rw [lineDebounced, if_pos h]
  rfl

/-- The moment in which a line of the scanner takes a debouncer. -/
theorem settled_line (l : InputLine) (d : Debouncer Level) (s : State) :
    (settle (lineDebounced l d (newMoment s))).scanner.lines[l].debouncer = d
      ∧ (∀ m : InputLine, m ≠ l → (settle (lineDebounced l d (newMoment s))).scanner.lines[m].debouncer = s.scanner.lines[m].debouncer)
      ∧ (settle (lineDebounced l d (newMoment s))).raised
          = (if d.stable = s.scanner.lines[l].debouncer.stable then 0 else classInput) := by
  have lines (m : InputLine) := lineDebounced_debouncer l d (newMoment s) m
  refine ⟨by simp only [settle_keeps, lines, if_true], fun m hm => ?_, ?_⟩
  · simp only [settle_keeps, lines, if_neg hm]
    simp
  · have raised := lineDebounced_raised l d (newMoment s)
    simp only [settle_keeps, raised, newMoment_keeps]
    simp [newMoment]

/-- A line's queue and reported levels where its stable level is kept. -/
theorem settled_line_unreported {l : InputLine} {d : Debouncer Level} {s : State}
    (h : (settle (lineDebounced l d (newMoment s))).raised = 0) :
    (settle (lineDebounced l d (newMoment s))).scanner.queue = s.scanner.queue
      ∧ ∀ m : InputLine, (settle (lineDebounced l d (newMoment s))).scanner.lines[m].reported = s.scanner.lines[m].reported := by
  have kept : d.stable = s.scanner.lines[l].debouncer.stable := by
    by_contra changed
    rw [(settled_line l d s).2.2, if_neg changed] at h
    revert h
    decide
  have scanner := lineDebounced_scanner_of_stable (l := l) (s := newMoment s) kept
  simp only [settle_keeps, scanner, newMoment_keeps]
  refine ⟨trivial, fun m => ?_⟩
  by_cases hm : m = l
  · subst hm
    rw [set_get_self]
  · rw [set_get_other _ _ _ _ hm]

/-! ## A sample of a field input pin (R116, R118) -/

theorem exec_fieldInputChange_runs {s : State} {l : InputLine} {p : PointIndex} (runs : panelRuns s.seq.state = true)
    (line : pointOfLine s.cfg l = some p) (pin : PinLevel) :
    exec (.fieldInputChange l pin) s
      = .next
          (settle
            (lineDebounced l
              (takeSample s.cfg.points[p].debounceMs (levelOf s.cfg.points[p].abnormalWhenClosed (contactRead pin))
                s.scanner.lines[l].debouncer)
              (newMoment (setFieldPin l pin s)))) := by
  change Host.Outcome.next (sampleLine l (contactRead pin) (setFieldPin l pin s)) = _
  simp only [sampleLine, setFieldPin_keeps, line, runs, if_true]

theorem exec_fieldInputChange_stopped {s : State} {l : InputLine} (h : panelRuns s.seq.state = false ∨ pointOfLine s.cfg l = none)
    (pin : PinLevel) : exec (.fieldInputChange l pin) s = .next (setFieldPin l pin s) := by
  change Host.Outcome.next (sampleLine l (contactRead pin) (setFieldPin l pin s)) = _
  rcases h with stopped | unscanned
  · cases line : pointOfLine s.cfg l <;> simp [sampleLine, line, stopped]
  · simp [sampleLine, unscanned]

/-- A contact closed is a pin low, and the polarity turns the contact into the level (R116, R201). -/
theorem levelOf_of_reads {closed : Bool} {pin : PinLevel} {level : Level} (h : level = .abnormal ↔ (pin = .low ↔ closed = true)) :
    levelOf closed (contactRead pin) = level := by
  rw [levelOf_contactRead]
  cases level with
  | abnormal => exact if_pos (h.1 rfl)
  | normal => exact if_neg fun reads => nomatch h.2 reads

/-- Settles O46: the table of R118, row by row. -/
theorem fieldSampleFollowsTheSettlingTable : Obligations.FieldSampleFollowsTheSettlingTable := by
  intro s l p pin level runs line reads
  refine ⟨_, exec_fieldInputChange_runs runs line pin, ?_⟩
  rw [levelOf_of_reads reads]
  obtain ⟨d, hd⟩ : ∃ d, takeSample s.cfg.points[p].debounceMs level s.scanner.lines[l].debouncer = d := ⟨_, rfl⟩
  obtain ⟨self, others, raised⟩ := settled_line l d (setFieldPin l pin s)
  have silent := settled_line_unreported (l := l) (d := d) (s := setFieldPin l pin s)
  simp only [setFieldPin_keeps] at others raised silent
  rw [hd, self, raised]
  refine ⟨by simp [setFieldPin], others, by rw [← hd, takeSample_raw], fun steady away slow => ?_, fun steady away fast => ?_, fun back running => ?_,
    fun back expired raw slow => ?_, fun ms settling away => ?_, fun h => silent (raised.trans h), by simp, by simp, by simp, by simp, by simp,
        by simp, by simp,
    keepsPanel_settle (by simp), by simp, by simp, by simp, by simp⟩
  · rw [← hd, takeSample_starts steady away (Nat.pos_iff_ne_zero.1 slow)]
    exact ⟨rfl, rfl, if_pos rfl⟩
  · rw [← hd, fast, takeSample_at_once steady away]
    exact ⟨rfl, rfl, if_neg away⟩
  · rw [← hd, back, takeSample_rest _ running]
    exact ⟨rfl, rfl, if_pos rfl⟩
  · rw [← hd, back, takeSample_atExpiry expired raw.symm (Nat.pos_iff_ne_zero.1 slow)]
    exact ⟨rfl, rfl, if_neg raw⟩
  · rw [← hd, takeSample_away _ settling away]
    exact ⟨rfl, settling, if_pos rfl⟩

/-! ## The ends of a settling (R118, R119) -/

theorem exec_inputSettlingExpiry_due {s : State} {l : InputLine} (due : s.scanner.lines[l].debouncer.settling = some 0)
    (runs : panelRuns s.seq.state = true) (scanned : isScanned s.cfg l = true) :
    exec (.inputSettlingExpiry l) s = .next (settle (lineDebounced l (settleLevel s.scanner.lines[l].debouncer) (newMoment s))) :=
  if_pos ⟨due, runs, scanned⟩

/-- The contact that stands for a level is read as it (R116). -/
theorem levelOf_contactOf (closed : Bool) (level : Level) : levelOf closed (contactRead (contactPin (contactOf closed level))) = level := by
  cases closed <;> cases level <;> rfl

theorem contactPin_contactOf (closed : Bool) (level : Level) :
    contactPin (contactOf closed level) = .low ↔ (level = .abnormal ↔ closed = true) := by
  cases closed <;> cases level <;> decide

theorem exec_inputSettlingAbandoned_runs {s : State} {l : InputLine} {p : PointIndex} {ms : Nat} (runs : panelRuns s.seq.state = true)
    (line : pointOfLine s.cfg l = some p) (settling : s.scanner.lines[l].debouncer.settling = some ms) :
    exec (.inputSettlingAbandoned l) s
      = exec (.fieldInputChange l (contactPin (contactOf s.cfg.points[p].abnormalWhenClosed s.scanner.lines[l].debouncer.stable))) s := by
  have read (c : Contact) : contactRead (contactPin c) = c := by cases c <;> rfl
  change execInputSettlingAbandoned l s = Host.Outcome.next (sampleLine l (contactRead _) (setFieldPin l _ s))
  simp only [execInputSettlingAbandoned, line, settling, runs, if_true, read]

/-- Outside SYNCED a settled level is not reported (R121). -/
theorem settled_line_of_ne {l : InputLine} {d : Debouncer Level} {s : State} (h : s.seq.state ≠ .synced) :
    (settle (lineDebounced l d (newMoment s))).scanner
      = { s.scanner with lines := s.scanner.lines.set l { s.scanner.lines[l] with debouncer := d } } := by
  have unreported : (lineDebounced l d (newMoment s)).scanner = (setLineDebouncer l d (newMoment s)).scanner := by
    unfold lineDebounced
    split
    · rfl
    · rw [reconcile, if_neg (by simpa using h)]
      rfl
  simp only [settle_keeps, unreported, setLineDebouncer, State.scanner_setScanner, newMoment_keeps]

/-- A settled level of the one unreported line joins the queue while there is room (R121). -/
theorem settled_line_reported {l : InputLine} {d : Debouncer Level} {s : State} (synced : s.seq.state = .synced)
    (room : s.scanner.queue.length < reportCapacity) (changed : d.stable ≠ s.scanner.lines[l].debouncer.stable)
    (scanned : isScanned s.cfg l = true) (reported : s.scanner.lines[l].reported = s.scanner.lines[l].debouncer.stable)
    (others : ∀ m : InputLine, m ≠ l → isUnreported s.cfg s.scanner m = false) :
    (settle (lineDebounced l d (newMoment s))).scanner = appendReport (setLineDebouncer l d (newMoment s)).scanner l := by
  have one : isUnreported s.cfg (setLineDebouncer l d (newMoment s)).scanner l = true := by
    have away : d.stable ≠ s.scanner.lines[l].reported := by rwa [reported]
    simpa [isUnreported, setLineDebouncer, scanned] using away
  have rest : ∀ m, m ≠ l → isUnreported s.cfg (setLineDebouncer l d (newMoment s)).scanner m = false := fun m hm => by
    have kept := others m hm
    simp only [isUnreported, setLineDebouncer, State.scanner_setScanner, newMoment_keeps] at kept ⊢
    rw [set_get_other _ _ _ _ hm]
    exact kept
  have queue : (setLineDebouncer l d (newMoment s)).scanner.queue.length < reportCapacity := by simpa [setLineDebouncer] using room
  have rounds : reconcileRounds s.cfg reportCapacity (setLineDebouncer l d (newMoment s)).scanner
      = appendReport (setLineDebouncer l d (newMoment s)).scanner l := reconcileRounds_of_one queue one rest 23
  rw [← rounds]
  simp only [settle_keeps, lineDebounced]
  rw [if_neg (by simpa using changed), reconcile, if_pos (by simpa using synced)]
  simp

/-- Settles O47: the expiry, the abandonment, and the pin alone where nothing is sampled. -/
theorem inputSettlingEnds : Obligations.InputSettlingEnds := by
  refine fun s l pin => ⟨fun running => if_neg fun h => running h.1, fun runs scanned due => ?_, fun ms runs scanned settling => ?_,
    fun h => exec_fieldInputChange_stopped h pin⟩
  · obtain ⟨self, others, raised⟩ := settled_line l (settleLevel s.scanner.lines[l].debouncer) s
    refine ⟨_, exec_inputSettlingExpiry_due due runs scanned, self, others, fun changed => raised.trans (if_neg changed), fun other => ?_,
      fun synced room changed reported alone => ?_, by simp, by simp, by simp, by simp, by simp, by simp, by simp, keepsPanel_settle (by simp),
      by simp [KeepsSetup]⟩
    · rw [settled_line_of_ne other]
      refine ⟨rfl, fun m => ?_⟩
      by_cases hm : m = l
      · subst hm
        simp only [set_get_self]
      · simp only [set_get_other _ _ _ _ hm]
    · rw [settled_line_reported synced room changed scanned reported alone]
      simp [appendReport, setLineDebouncer, settleLevel]
  · obtain ⟨p, line⟩ := Option.isSome_iff_exists.1 scanned
    obtain ⟨pin, hpin⟩ : ∃ pin, contactPin (contactOf s.cfg.points[p].abnormalWhenClosed s.scanner.lines[l].debouncer.stable) = pin := ⟨_, rfl⟩
    have reads : levelOf s.cfg.points[p].abnormalWhenClosed (contactRead pin) = s.scanner.lines[l].debouncer.stable := by
      rw [← hpin, levelOf_contactOf]
    refine ⟨_, by rw [exec_inputSettlingAbandoned_runs runs line settling, hpin, exec_fieldInputChange_runs runs line pin, reads,
      takeSample_back _ settling], ?_⟩
    obtain ⟨-, -, raised⟩ := settled_line l { s.scanner.lines[l].debouncer with raw := s.scanner.lines[l].debouncer.stable, settling := none }
      (setFieldPin l pin s)
    have pinned : (setFieldPin l pin s).pins.field[l] = pin := by simp [setFieldPin]
    refine ⟨?_, raised.trans (if_pos (by simp)), by simp, by simp, by simp, by simp, by simp, by simp, by simp, keepsPanel_settle (by simp),
      by simp, by simp, by simp, by simp, by simp [setFieldPin], fun q hq => ?_⟩
    · have scanner := lineDebounced_scanner_of_stable (l := l) (s := newMoment (setFieldPin l pin s))
        (d := { s.scanner.lines[l].debouncer with raw := s.scanner.lines[l].debouncer.stable, settling := none }) (by simp)
      simp only [settle_keeps, scanner, newMoment_keeps, setFieldPin_keeps]
    · rw [line, Option.some.injEq] at hq
      subst hq
      simp only [settle_keeps, lineDebounced_keeps, newMoment_keeps, pinned]
      rw [← hpin]
      exact contactPin_contactOf ..

end Sys2Proof.Machine
end

section
/-! PROOFS. Samples, presses and releases of the four buttons (R131 to R142, R170). -/

namespace Sys2Proof.Machine

open Sys2Proof

/-! ## The four debouncers (R131) -/

theorem debouncerOf_withDebouncer (panel : OperatorInterface) (b m : Button) (d : Debouncer ButtonLevel) :
    debouncerOf (withDebouncer panel b d) m = if m = b then d else debouncerOf panel m := by
  cases b <;> cases m <;> rfl

theorem debouncerOf_settle (s : State) (b : Button) : debouncerOf (settle s).panel b = debouncerOf s.panel b := by
  rw [settle_panel]
  cases b <;> rfl

theorem pressOperation_debouncer (op : Operation) (s : State) (b : Button) :
    debouncerOf (pressOperation op s).panel b = debouncerOf s.panel b := by
  unfold pressOperation
  split <;> cases b <;> rfl

theorem press_debouncer (b m : Button) (s : State) : debouncerOf (press b s).panel m = debouncerOf s.panel m := by
  cases b with
  | ack | silence | reset => exact pressOperation_debouncer _ _ m
  | test => simp [press]

theorem release_debouncer (b m : Button) (s : State) : debouncerOf (release b s).panel m = debouncerOf s.panel m := by
  cases b <;> rfl

/-- A button takes its debouncer, and the others keep theirs. -/
theorem buttonDebounced_debouncer (b m : Button) (d : Debouncer ButtonLevel) (s : State) :
    debouncerOf (buttonDebounced b d s).panel m = if m = b then d else debouncerOf s.panel m := by
  unfold buttonDebounced
  split
  · exact debouncerOf_withDebouncer ..
  · split
    · rw [press_debouncer]
      exact debouncerOf_withDebouncer ..
    · rw [release_debouncer]
      exact debouncerOf_withDebouncer ..

theorem press_raised (b : Button) (s : State) : (press b s).raised = s.raised ||| classButton := by
  cases b <;> simp [press, raise]

theorem release_raised (b : Button) (s : State) : (release b s).raised = s.raised := by cases b <;> rfl

/-- The moment in which a button takes a debouncer: its own, the others, and BUTTON where it comes to rest pressed (R133). -/
theorem settled_button (b : Button) (d : Debouncer ButtonLevel) (s : State) :
    debouncerOf (settle (buttonDebounced b d (newMoment s))).panel b = d
      ∧ (∀ m : Button, m ≠ b → debouncerOf (settle (buttonDebounced b d (newMoment s))).panel m = debouncerOf s.panel m)
      ∧ (settle (buttonDebounced b d (newMoment s))).raised
          = (if d.stable = .pressed ∧ (debouncerOf s.panel b).stable = .released then classButton else 0) := by
  refine ⟨by rw [debouncerOf_settle, buttonDebounced_debouncer, if_pos rfl],
    fun m hm => by rw [debouncerOf_settle, buttonDebounced_debouncer, if_neg hm]; simp, ?_⟩
  rw [(settle_keeps _).2.2.2.2.2.2.2.2.2.2.2.2.1]
  have start : (setButtonDebouncer b d (newMoment s)).raised = 0 := by simp [setButtonDebouncer, newMoment]
  unfold buttonDebounced
  simp only [newMoment_keeps]
  cases before : (debouncerOf s.panel b).stable <;> cases after : d.stable <;>
    simp [start, press_raised, release_raised]

theorem settle_operatorQueue (s : State) :
    (settle s).panel.queue = s.panel.queue ∧ (settle s).panel.pressDrops = s.panel.pressDrops := by
  rw [settle_panel]
  exact ⟨rfl, rfl⟩

/-- A button whose stable level is kept: nothing is raised, and the queue, the press drops and the lamp test are left alone (R132). -/
theorem settled_button_of_stable {b : Button} {d : Debouncer ButtonLevel} {s : State} (h : d.stable = (debouncerOf s.panel b).stable) :
    (settle (buttonDebounced b d (newMoment s))).panel.queue = s.panel.queue
      ∧ (settle (buttonDebounced b d (newMoment s))).panel.pressDrops = s.panel.pressDrops
      ∧ (settle (buttonDebounced b d (newMoment s))).raised = 0 ∧ (settle (buttonDebounced b d (newMoment s))).lamp = s.lamp := by
  have kept : buttonDebounced b d (newMoment s) = setButtonDebouncer b d (newMoment s) := if_pos (by simpa using h)
  obtain ⟨queue, drops⟩ := settle_operatorQueue (setButtonDebouncer b d (newMoment s))
  rw [kept, queue, drops]
  refine ⟨?_, ?_, by simp [setButtonDebouncer, newMoment], by simp [setButtonDebouncer]⟩ <;> cases b <;> rfl

/-! ## A sample of a button (R131, R132) -/

theorem exec_buttonInputChange_runs {s : State} (runs : panelRuns s.seq.state = true) (b : Button) (pin : PinLevel) :
    exec (.buttonInputChange b pin) s
      = .next
          (settle
            (buttonDebounced b (takeSample buttonSettlingMs (buttonLevelOf (contactRead pin)) (debouncerOf s.panel b))
              (newMoment (setButtonPin b pin s)))) := by
  change Host.Outcome.next (sampleButton b (contactRead pin) (setButtonPin b pin s)) = _
  simp only [sampleButton, setButtonPin_keeps, runs, if_true]

theorem buttonLevelOf_of_reads {pin : PinLevel} {level : ButtonLevel} (h : level = .pressed ↔ pin = .low) :
    buttonLevelOf (contactRead pin) = level := by
  cases pin <;> cases level <;> simp [contactRead, pulledUp, buttonLevelOf] at h ⊢

theorem buttonPin_setButtonPin (b m : Button) (pin : PinLevel) (s : State) :
    buttonPin (setButtonPin b pin s).pins m = if m = b then pin else buttonPin s.pins m := by
  cases b <;> cases m <;> rfl

theorem setButtonPin_field (b : Button) (pin : PinLevel) (s : State) : (setButtonPin b pin s).pins.field = s.pins.field := by
  cases b <;> rfl

theorem exec_buttonSettlingAbandoned_runs {s : State} {b : Button} {ms : Nat} (runs : panelRuns s.seq.state = true)
    (settling : (debouncerOf s.panel b).settling = some ms) :
    exec (.buttonSettlingAbandoned b) s = exec (.buttonInputChange b (contactPin (buttonContactOf (debouncerOf s.panel b).stable))) s := by
  have read (c : Contact) : contactRead (contactPin c) = c := by cases c <;> rfl
  change execButtonSettlingAbandoned b s = Host.Outcome.next (sampleButton b (contactRead _) (setButtonPin b _ s))
  simp only [execButtonSettlingAbandoned, settling, runs, if_true, read]

theorem contactPin_buttonContactOf (level : ButtonLevel) : contactPin (buttonContactOf level) = .low ↔ level = .pressed := by
  cases level <;> decide

/-- What a sample leaves alone, whatever the button comes to. -/
theorem settled_button_keeps (b : Button) (d : Debouncer ButtonLevel) (pin : PinLevel) (s : State) :
    let t := settle (buttonDebounced b d (newMoment (setButtonPin b pin s)))
    t.points = s.points ∧ t.seq = s.seq ∧ t.line = s.line ∧ t.members = s.members ∧ t.transfer = s.transfer ∧ t.scanner = s.scanner
      ∧ t.responder = s.responder ∧ t.cfg = s.cfg ∧ t.loader = s.loader := by
  simp

/-- Settles O48: the table of R132, row by row. -/
theorem buttonSampleFollowsTheSettlingTable : Obligations.ButtonSampleFollowsTheSettlingTable := by
  intro s b pin level reads
  have pins (m : Button) (d : Debouncer ButtonLevel) (pin : PinLevel) :
      buttonPin (settle (buttonDebounced b d (newMoment (setButtonPin b pin s)))).pins m = if m = b then pin else buttonPin s.pins m := by
    simpa using buttonPin_setButtonPin b m pin s
  have field (d : Debouncer ButtonLevel) (pin : PinLevel) :
      (settle (buttonDebounced b d (newMoment (setButtonPin b pin s)))).pins.field = s.pins.field := by
    simpa using setButtonPin_field b pin s
  refine ⟨fun runs rests => ?_, fun runs back expired raw => ?_, fun ms runs settling => ?_, fun stopped => ?_⟩
  · refine ⟨_, exec_buttonInputChange_runs runs b pin, ?_⟩
    rw [buttonLevelOf_of_reads reads]
    obtain ⟨d, hd⟩ : ∃ d, takeSample buttonSettlingMs level (debouncerOf s.panel b) = d := ⟨_, rfl⟩
    rw [hd]
    have rest : level = (debouncerOf s.panel b).stable → d = { debouncerOf s.panel b with raw := level, settling := none } := fun back => by
      rw [← hd, back, takeSample_rest _ (rests back)]
    have starts : level ≠ (debouncerOf s.panel b).stable → (debouncerOf s.panel b).settling = none →
        d = { debouncerOf s.panel b with raw := level, settling := some 20 } := fun away steady => by
      rw [← hd, takeSample_starts steady away (by decide), buttonSettlingMs]
    have runsOn (ms : Nat) : level ≠ (debouncerOf s.panel b).stable → (debouncerOf s.panel b).settling = some ms →
        d = { debouncerOf s.panel b with raw := level } := fun away settling => by
      rw [← hd, takeSample_away _ settling away]
    have stable : d.stable = (debouncerOf s.panel b).stable := by
      by_cases back : level = (debouncerOf s.panel b).stable
      · rw [rest back]
      · cases settling : (debouncerOf s.panel b).settling with
        | none => rw [starts back settling]
        | some ms => rw [runsOn ms back settling]
    obtain ⟨self, others, -⟩ := settled_button b d (setButtonPin b pin s)
    obtain ⟨queue, drops, raised, lamp⟩ := settled_button_of_stable (b := b) (d := d) (s := setButtonPin b pin s) (by simpa using stable)
    obtain ⟨points, seq, line, members, transfer, scanner, responder, cfg, loader⟩ := settled_button_keeps b d pin s
    simp only [setButtonPin_keeps] at others queue drops lamp
    rw [self]
    exact ⟨(pins b d pin).trans (if_pos rfl), fun m hm => ⟨others m hm, (pins m d pin).trans (if_neg hm)⟩, by rw [← hd, takeSample_raw], stable,
      fun back => by rw [rest back], fun away steady => by rw [starts away steady], fun ms away settling => by rw [runsOn ms away settling, settling],
      queue, drops, raised, field d pin, points, seq, line, members, transfer, scanner, lamp, responder, cfg, loader⟩
  · refine ⟨_, exec_buttonInputChange_runs runs b pin, ?_⟩
    rw [buttonLevelOf_of_reads reads, back, takeSample_atExpiry expired raw.symm (by decide)]
    obtain ⟨self, others, raised⟩ := settled_button b
      { raw := (debouncerOf s.panel b).stable, stable := (debouncerOf s.panel b).raw, settling := some buttonSettlingMs } (setButtonPin b pin s)
    simp only [setButtonPin_keeps] at others raised
    refine ⟨(pins b _ pin).trans (if_pos rfl), others, self, raised.trans ?_, settled_button_keeps b _ pin s⟩
    cases before : (debouncerOf s.panel b).stable <;> cases after : (debouncerOf s.panel b).raw <;> simp_all
  · obtain ⟨pin, hpin⟩ : ∃ pin, contactPin (buttonContactOf (debouncerOf s.panel b).stable) = pin := ⟨_, rfl⟩
    have reads : buttonLevelOf (contactRead pin) = (debouncerOf s.panel b).stable :=
      buttonLevelOf_of_reads (by rw [← hpin, contactPin_buttonContactOf])
    obtain ⟨d, hd⟩ : ∃ d : Debouncer ButtonLevel,
        { raw := (debouncerOf s.panel b).stable, stable := (debouncerOf s.panel b).stable, settling := none } = d := ⟨_, rfl⟩
    have stable : d.stable = (debouncerOf (setButtonPin b pin s).panel b).stable := by rw [← hd]; simp
    obtain ⟨self, others, -⟩ := settled_button b d (setButtonPin b pin s)
    obtain ⟨queue, drops, raised, lamp⟩ := settled_button_of_stable stable
    obtain ⟨points, seq, line, members, transfer, scanner, responder, cfg, loader⟩ := settled_button_keeps b d pin s
    simp only [setButtonPin_keeps] at others queue drops lamp
    refine ⟨_, by rw [exec_buttonSettlingAbandoned_runs runs settling, hpin, exec_buttonInputChange_runs runs b pin, reads,
        takeSample_back _ settling],
      ?_⟩
    rw [hd]
    refine ⟨self, others, queue, drops, raised, points, seq, line, members, transfer, scanner, lamp, responder, cfg, loader, ?_⟩
    rw [pins b d pin, if_pos rfl, ← hpin]
    exact contactPin_buttonContactOf _
  · change Host.Outcome.next (sampleButton b (contactRead pin) (setButtonPin b pin s)) = _
    simp [sampleButton, stopped]

/-! ## Presses and releases (R133 to R139, R142, R170) -/

theorem exec_buttonSettlingExpiry_due {s : State} {b : Button} (due : (debouncerOf s.panel b).settling = some 0)
    (runs : panelRuns s.seq.state = true) :
    exec (.buttonSettlingExpiry b) s = .next (settle (buttonDebounced b (settleLevel (debouncerOf s.panel b)) (newMoment s))) :=
  if_pos ⟨due, runs⟩

theorem buttonDebounced_pressed {b : Button} {d : Debouncer ButtonLevel} {s : State} (before : (debouncerOf s.panel b).stable = .released)
    (after : d.stable = .pressed) : buttonDebounced b d s = press b (setButtonDebouncer b d s) := by
  unfold buttonDebounced
  rw [before, after, if_neg (by decide)]

theorem buttonDebounced_released {b : Button} {d : Debouncer ButtonLevel} {s : State} (before : (debouncerOf s.panel b).stable = .pressed)
    (after : d.stable = .released) : buttonDebounced b d s = release b (setButtonDebouncer b d s) := by
  unfold buttonDebounced
  rw [before, after, if_neg (by decide)]

theorem setButtonDebouncer_panel (b : Button) (d : Debouncer ButtonLevel) (s : State) :
    (setButtonDebouncer b d s).panel.queue = s.panel.queue ∧ (setButtonDebouncer b d s).panel.pressDrops = s.panel.pressDrops := by
  cases b <;> exact ⟨rfl, rfl⟩

/-- A press of an operation button, at the operator queue (R136, R137, R139). -/
theorem pressOperation_queue (op : Operation) (s : State) :
    (s.seq.state = .synced → s.panel.queue.length < 4 →
        (pressOperation op s).panel.queue
            = s.panel.queue ++ [{ operation := op, groups := s.cfg.controlSet, horizon := if op = .ack then s.seq.orderCount else 0 }]
          ∧ (pressOperation op s).panel.pressDrops = s.panel.pressDrops)
      ∧ ((s.seq.state ≠ .synced ∨ 4 ≤ s.panel.queue.length) →
        (pressOperation op s).panel.queue = s.panel.queue
          ∧ (pressOperation op s).panel.pressDrops = (if s.panel.pressDrops = 255 then 255 else s.panel.pressDrops + 1)) := by
  refine ⟨fun synced room => ?_, fun refused => ?_⟩
  · rw [pressOperation, if_pos ⟨synced, room⟩]
    exact ⟨rfl, rfl⟩
  · rw [pressOperation, if_neg]
    · exact ⟨rfl, rfl⟩
    · rintro ⟨synced, room⟩
      exact refused.elim (absurd synced) (absurd room ∘ Nat.not_lt.2)

/-- TEST held begins the lamp test from IDLE alone (R142, R170). -/
theorem lampTestHeld_lamp (s : State) :
    (s.lamp.test = .idle → (lampTestHeld s).lamp = { s.lamp with test := .active 30000 })
      ∧ (s.lamp.test ≠ .idle → (lampTestHeld s).lamp = s.lamp) := by
  refine ⟨fun idle => ?_, fun busy => ?_⟩
  · simp only [lampTestHeld, idle]
    rfl
  · cases test : s.lamp.test with
    | idle => exact absurd test busy
    | active ms => simp only [lampTestHeld, test]
    | timedOut => simp only [lampTestHeld, test]

/-- Settles O49: the expiry of each button's settling. -/
theorem pressesEnterTheQueueOrDrop : Obligations.PressesEnterTheQueueOrDrop := by
  refine ⟨fun s b running => if_neg fun h => running h.1, fun s b runs due => ⟨fun raw before => ?_, fun raw before => ?_⟩⟩
  · refine ⟨_, exec_buttonSettlingExpiry_due due runs, ?_⟩
    have d : settleLevel (debouncerOf s.panel b) = { raw := .pressed, stable := .pressed, settling := none } := by rw [settleLevel, raw]
    rw [d]
    obtain ⟨self, -, raised⟩ := settled_button b { raw := .pressed, stable := .pressed, settling := none } s
    have pressed := buttonDebounced_pressed (b := b) (d := { raw := .pressed, stable := .pressed, settling := none }) (s := newMoment s)
      (by simpa using before) rfl
    obtain ⟨u, hu⟩ : ∃ u, setButtonDebouncer b { raw := .pressed, stable := .pressed, settling := none } (newMoment s) = u := ⟨_, rfl⟩
    obtain ⟨u_queue, u_drops⟩ := setButtonDebouncer_panel b { raw := .pressed, stable := .pressed, settling := none } (newMoment s)
    have kept : u.seq = s.seq ∧ u.cfg = s.cfg ∧ u.lamp = s.lamp ∧ u.panel.queue = s.panel.queue ∧ u.panel.pressDrops = s.panel.pressDrops := by
      rw [← hu, u_queue, u_drops]
      simp [setButtonDebouncer]
    obtain ⟨seq, cfg, lamp, queue, drops⟩ := kept
    obtain ⟨t_queue, t_drops⟩ := settle_operatorQueue (press b u)
    refine ⟨raised.trans (if_pos ⟨rfl, before⟩), self, fun op row => ?_, fun test => ?_, by simp, by simp, by simp, by simp, by simp, by simp,
        by simp,
      by simp [KeepsSetup]⟩
    · rw [pressed, hu, t_queue, t_drops]
      have entered : press b u = pressOperation op (raise classButton u) := by
        rcases row with ⟨rfl, rfl⟩ | ⟨rfl, rfl⟩ | ⟨rfl, rfl⟩ <;> rfl
      have operation := pressOperation_queue op (raise classButton u)
      simp only [raise_keeps, seq, cfg, queue, drops] at operation
      rw [entered]
      exact ⟨by simpa using lamp, operation⟩
    · subst test
      rw [pressed, hu, t_queue, t_drops]
      have held := lampTestHeld_lamp (raise classButton u)
      simp only [raise_keeps, lamp] at held
      refine ⟨by simpa [press] using queue, by simpa [press] using drops, ?_⟩
      simpa [press] using held
  · refine ⟨_, exec_buttonSettlingExpiry_due due runs, ?_⟩
    have d : settleLevel (debouncerOf s.panel b) = { raw := .released, stable := .released, settling := none } := by rw [settleLevel, raw]
    rw [d]
    obtain ⟨self, -, raised⟩ := settled_button b { raw := .released, stable := .released, settling := none } s
    have released := buttonDebounced_released (b := b) (d := { raw := .released, stable := .released, settling := none }) (s := newMoment s)
      (by simpa using before) rfl
    refine ⟨raised.trans (if_neg (by simp)), self, ?_, ?_, ?_, by simp, by simp, by simp, by simp, by simp, by simp, by simp, by simp [KeepsSetup]⟩
    · rw [(settle_operatorQueue _).1, released]
      cases b <;> rfl
    · rw [(settle_operatorQueue _).2, released]
      cases b <;> rfl
    · rw [(settle_keeps _).2.2.2.2.2.2.2.2.2.2.1, released]
      cases b <;> rfl

end Sys2Proof.Machine
end

section
/-! PROOFS. Every moment of the activity timers (R148, R150 to R160). -/

namespace Sys2Proof.Machine

open Sys2Proof

/-! ## A settled moment (R153) -/

theorem takesMoment_timerMoment {armed active : Bool} {A B : Prop} (ha : armed = true ↔ A) (hb : active = true ↔ B) (reloadMs : Nat)
    (t : TimerState) : TakesMoment A B reloadMs t (timerMoment armed active reloadMs t) := by
  unfold TakesMoment timerMoment
  rw [← ha, ← hb]
  cases armed <;> cases active <;> cases t <;> simp

theorem TakesMoment.not_expired {A B : Prop} {reloadMs : Nat} {before after : TimerState} (h : TakesMoment A B reloadMs before after) (active : B) :
    after ≠ .expired := by
  obtain ⟨disarmed, -, reloaded, -⟩ := h
  by_cases armed : A
  · rw [reloaded armed active]
    nofun
  · rw [disarmed armed]
    nofun

/-- Each timer takes the moment by R153's table, from its arming condition (R155 to R160) and its mask (R151). -/
def MomentTaken (s t : State) : Prop :=
  TakesMoment (t.seq.state = .joining ∨ t.seq.state = .syncing ∨ t.seq.state = .synced) (t.raised &&& 0x80 ≠ 0) s.cfg.presenceMs
    s.timers.t0 t.timers.t0
  ∧ TakesMoment (s.cfg.t1ReloadMs ≠ 0 ∧ t.seq.state ≠ .off ∧ t.seq.state ≠ .halted) (t.raised &&& s.cfg.t1Mask ≠ 0) s.cfg.t1ReloadMs
      s.timers.t1 t.timers.t1
  ∧ TakesMoment
      (s.cfg.t2ReloadMs ≠ 0 ∧ t.seq.state ≠ .off ∧ t.seq.state ≠ .halted
        ∧ ∃ p : PointIndex, isUsed s.cfg p = true ∧ s.cfg.controlSet.getLsbD s.cfg.points[p].group.val = true
            ∧ (t.points[p].state = .alert ∨ t.points[p].state = .returned))
      (t.raised &&& s.cfg.t2Mask ≠ 0) s.cfg.t2ReloadMs s.timers.t2 t.timers.t2
  ∧ TakesMoment
      (s.cfg.t3ReloadMs ≠ 0 ∧ t.seq.state ≠ .off ∧ t.seq.state ≠ .halted
        ∧ ∃ p : PointIndex, isUsed s.cfg p = true ∧ s.cfg.controlSet.getLsbD s.cfg.points[p].group.val = true
            ∧ (((t.points[p].state = .alert ∨ t.points[p].state = .returned) ∧ t.points[p].silenced = false)
                ∨ t.points[p].state = .ringback))
      (t.raised &&& s.cfg.t3Mask ≠ 0) s.cfg.t3ReloadMs s.timers.t3 t.timers.t3

/-- The timers' states and the configuration, which no part of a moment moves ahead of its settling. -/
structure SameTimers (s u : State) : Prop where
  cfg : u.cfg = s.cfg
  t0 : u.timers.t0 = s.timers.t0
  t1 : u.timers.t1 = s.timers.t1
  t2 : u.timers.t2 = s.timers.t2
  t3 : u.timers.t3 = s.timers.t3

theorem sameTimers_of_timers {s u : State} (cfg : u.cfg = s.cfg) (timers : u.timers = s.timers) : SameTimers s u := by
  constructor <;> simp only [cfg, timers]

theorem panelRuns_iff (state : LineState) : panelRuns state = true ↔ state ≠ .off ∧ state ≠ .halted := by
  cases state <;> simp [panelRuns]

theorem hornDemand_iff (cfg : Configuration) (records : Records) :
    hornDemand cfg records = true
      ↔ ∃ p : PointIndex, isUsed cfg p = true ∧ cfg.controlSet.getLsbD cfg.points[p].group.val = true
          ∧ (((records[p].state = .alert ∨ records[p].state = .returned) ∧ records[p].silenced = false) ∨ records[p].state = .ringback) := by
  simp only [hornDemand, unsilencedCount, ringbackCount, Bool.or_eq_true, decide_eq_true_eq, controlCount_pos, inControlSet_iff,
    Bool.and_eq_true, isUnacknowledged_iff, Bool.not_eq_true', beq_iff_eq, ← exists_or, and_assoc, ← and_or_left]

theorem actsOn_iff (raised mask : Byte) : actsOn raised mask = true ↔ raised &&& mask ≠ 0 := bne_iff_ne

theorem momentTaken_settle {s u : State} (same : SameTimers s u) : MomentTaken s (settle u) := by
  obtain ⟨cfg, t0, t1, t2, t3⟩ := same
  unfold MomentTaken
  rw [settle_timers]
  simp only [settleTimers, State.timers_setTimers, settle_keeps, ← t0, ← t1, ← t2, ← t3, ← cfg]
  refine ⟨takesMoment_timerMoment (transmits_iff _) (actsOn_iff ..) .., takesMoment_timerMoment ?_ (actsOn_iff ..) ..,
    takesMoment_timerMoment ?_ (actsOn_iff ..) .., takesMoment_timerMoment ?_ (actsOn_iff ..) ..⟩
  · simp only [t1Armed, Bool.and_eq_true, bne_iff_ne, panelRuns_iff]
  · simp only [t2Armed, Bool.and_eq_true, bne_iff_ne, panelRuns_iff, decide_eq_true_eq, unacknowledgedCount_pos, and_assoc]
  · simp only [t3Armed, Bool.and_eq_true, bne_iff_ne, panelRuns_iff, hornDemand_iff, and_assoc]

/-! ## What comes to a settled moment -/

theorem sameTimers_takeOwn (content : FrameContent) (s : State) : SameTimers s (takeOwn content s) := by
  cases content with
  | point p w d => exact sameTimers_of_timers (by simp) (by simp [takeOwn, (takenFrame_takePoint (sentField s) p w d s).timers])
  | operator op g hz d => exact sameTimers_of_timers (by simp) (by simp [takeOwn, (takenFrame_takeOperator (sentField s) op g hz d s).timers])
  | presence _ _ _ => constructor <;> simp [takeOwn]
  | join _ _ | start _ _ _ _ | data _ _ _ | query _ | reply _ _ _ => exact sameTimers_of_timers (by simp) (by simp [takeOwn])

theorem momentTaken_settleMembership {s u : State} (same : SameTimers s u) : MomentTaken s (settleMembership u) :=
  momentTaken_settle ⟨by simpa using same.cfg, by simpa using same.t0, by simpa using same.t1, by simpa using same.t2, by simpa using same.t3⟩

theorem momentTaken_frame {s t : State} {c : Instr} {gap : Nat} (frame : frameGap c = some gap) (heard : hears gap s = true)
    (moves : movesMembership c = true) (h : exec c s = .next t) : MomentTaken s t := by
  obtain ⟨cls, heading, payload, delivered, other⟩ := frame_of_movesMembership moves
  have headed : heading.gap = gap := by
    cases c <;> cases delivered <;> cases frame <;> rfl
  rw [exec_deliveredFrame delivered, frameEnds, whenHeard, if_pos (by rw [headed]; exact heard)] at h
  split at h <;> cases h
  · exact momentTaken_settle (sameTimers_of_timers (by simp [enterHalted]) (by simp [enterHalted]))
  · have taken := takenFrame_of_class other heading.sender payload (frameStart s)
    exact momentTaken_settleMembership (sameTimers_of_timers (by simp) (by simpa using taken.timers))

/-- A failure that reaches a limit withdraws or halts the station (R43, R46). -/
theorem momentTaken_failure {s t : State} {c : Instr} {a : Attempt} (attempt : s.line.attempt = some a) (sends : transmits s.seq.state = true)
    (last : (c = .attemptVoided ∧ 15 ≤ s.line.failures) ∨ (c = .echoMismatch ∧ (15 ≤ s.line.failures ∨ 2 ≤ s.line.mismatches)))
    (h : exec c s = .next t) : MomentTaken s t := by
  have withdrawn (mismatches : Nat) (full : 15 ≤ s.line.failures) :
      afterFailure (failedAttempt mismatches s) = settle (enterWithdrawn (failedAttempt mismatches s)) := by
    rw [afterFailure, if_pos]
    simp only [failedAttempt, failureLimit, State.line_setLine]
    omega
  have taken (mismatches : Nat) : MomentTaken s (settle (enterWithdrawn (failedAttempt mismatches s))) := by
    apply momentTaken_settle
    constructor <;> simp [enterWithdrawn, failedAttempt]
  rcases last with ⟨rfl, full⟩ | ⟨rfl, full⟩
  · rw [exec_attemptVoided sends attempt, withdrawn 0 full] at h
    cases h
    exact taken 0
  · rw [exec_echoMismatch sends attempt] at h
    split at h <;> cases h
    · apply momentTaken_settle
      constructor <;> simp [enterHalted, failedAttempt]
    · next below =>
      rw [withdrawn _ (full.resolve_right below)]
      exact taken _

/-- A sample or the end of a settling is the taking of a debouncer by a line or by a button (R115 to R118, R131, R132). -/
theorem takesSample_cases {c : Instr} {s : State} (h : TakesSample c s) :
    (∃ l d pins, exec c s = .next (settle (lineDebounced l d (newMoment (s.setPins pins)))))
      ∨ ∃ b d pins, exec c s = .next (settle (buttonDebounced b d (newMoment (s.setPins pins)))) := by
  have pinned (b : Button) (pin : PinLevel) : setButtonPin b pin s = s.setPins (setButtonPin b pin s).pins := by cases b <;> rfl
  obtain ⟨runs, ⟨l, scanned, row⟩ | ⟨b, row⟩⟩ := h
  · obtain ⟨p, line⟩ := Option.isSome_iff_exists.1 scanned
    rcases row with ⟨pin, rfl⟩ | ⟨rfl, due⟩ | ⟨rfl, settling⟩
    · exact .inl ⟨l, _, _, exec_fieldInputChange_runs runs line pin⟩
    · exact .inl ⟨l, _, s.pins, exec_inputSettlingExpiry_due due runs scanned⟩
    · obtain ⟨ms, settling⟩ := Option.isSome_iff_exists.1 settling
      exact .inl ⟨l, _, _, (exec_inputSettlingAbandoned_runs runs line settling).trans (exec_fieldInputChange_runs runs line _)⟩
  · rcases row with ⟨pin, rfl⟩ | ⟨rfl, due⟩ | ⟨rfl, settling⟩
    · exact .inr ⟨b, _, _, by rw [exec_buttonInputChange_runs runs b pin, pinned]⟩
    · exact .inr ⟨b, _, s.pins, exec_buttonSettlingExpiry_due due runs⟩
    · obtain ⟨ms, settling⟩ := Option.isSome_iff_exists.1 settling
      exact .inr ⟨b, _, _, by rw [exec_buttonSettlingAbandoned_runs runs settling, exec_buttonInputChange_runs runs b, pinned]⟩

theorem momentTaken_sample {c : Instr} {s t : State} (row : TakesSample c s) (h : exec c s = .next t) : MomentTaken s t := by
  rcases takesSample_cases row with ⟨l, d, pins, e⟩ | ⟨b, d, pins, e⟩ <;> rw [e] at h <;> cases h <;>
    exact momentTaken_settle (sameTimers_of_timers (by simp) (by simp))

/-- A silent horn is one that no record asks for, where it may sound (R143 to R145). -/
theorem horn_of_runs {s : State} (runs : panelRuns s.seq.state = true) (sounds : s.timers.t3 ≠ .expired) :
    hornPattern s ≠ .silent ↔ hornDemand s.cfg s.points = true := by
  have pattern : hornPattern s = demandedPattern s.cfg s.points := by simp [hornPattern, runs, sounds]
  rw [pattern, demandedPattern, hornDemand, Bool.or_eq_true, decide_eq_true_eq, decide_eq_true_eq]
  by_cases unsilenced : 0 < unsilencedCount s.cfg s.points
  · simp [unsilenced]
  · by_cases ringback : 0 < ringbackCount s.cfg s.points <;> simp [unsilenced, ringback]

/-- What a sample raises, and of which change it is the sign (R119, R133, R151). -/
def RaisedBySample (s t : State) : Prop :=
  (t.raised = 0 ∨ t.raised = classInput ∨ t.raised = classButton)
    ∧ (t.raised = classInput ↔ ∃ l : InputLine, t.scanner.lines[l].debouncer.stable ≠ s.scanner.lines[l].debouncer.stable)
    ∧ (t.raised = classButton ↔
        ∃ b : Button, (debouncerOf s.panel b).stable = .released ∧ (debouncerOf t.panel b).stable = .pressed)

theorem raisedBySample_line (l : InputLine) (d : Debouncer Level) (s : State) :
    RaisedBySample s (settle (lineDebounced l d (newMoment s))) := by
  obtain ⟨self, others, raised⟩ := settled_line l d s
  have pressed (b : Button) : debouncerOf (settle (lineDebounced l d (newMoment s))).panel b = debouncerOf s.panel b := by
    rw [debouncerOf_settle]
    simp
  have moved : (∃ m : InputLine, (settle (lineDebounced l d (newMoment s))).scanner.lines[m].debouncer.stable ≠ s.scanner.lines[m].debouncer.stable)
      ↔ d.stable ≠ s.scanner.lines[l].debouncer.stable := by
    refine ⟨fun ⟨m, changed⟩ => ?_, fun changed => ⟨l, by rw [self]; exact changed⟩⟩
    by_cases hm : m = l
    · subst hm
      rwa [self] at changed
    · exact absurd (by rw [others m hm]) changed
  rw [RaisedBySample, moved, raised]
  simp only [pressed]
  by_cases kept : d.stable = s.scanner.lines[l].debouncer.stable
  · rw [if_pos kept]
    refine ⟨.inl rfl, ⟨fun h => absurd h (by decide), fun h => absurd kept h⟩, fun h => absurd h (by decide), ?_⟩
    rintro ⟨b, released, pressed⟩
    rw [released] at pressed
    cases pressed
  · rw [if_neg kept]
    refine ⟨.inr (.inl rfl), ⟨fun _ => kept, fun _ => rfl⟩, fun h => absurd h (by decide), ?_⟩
    rintro ⟨b, released, pressed⟩
    rw [released] at pressed
    cases pressed

theorem raisedBySample_button (b : Button) (d : Debouncer ButtonLevel) (s : State) :
    RaisedBySample s (settle (buttonDebounced b d (newMoment s))) := by
  obtain ⟨self, others, raised⟩ := settled_button b d s
  have moved : (∃ m : Button, (debouncerOf s.panel m).stable = .released
        ∧ (debouncerOf (settle (buttonDebounced b d (newMoment s))).panel m).stable = .pressed)
      ↔ d.stable = .pressed ∧ (debouncerOf s.panel b).stable = .released := by
    refine ⟨fun ⟨m, before, after⟩ => ?_, fun ⟨after, before⟩ => ⟨b, before, by rw [self]; exact after⟩⟩
    by_cases hm : m = b
    · subst hm
      rw [self] at after
      exact ⟨after, before⟩
    · rw [others m hm, before] at after
      cases after
  have still : ¬ ∃ l : InputLine,
      (settle (buttonDebounced b d (newMoment s))).scanner.lines[l].debouncer.stable ≠ s.scanner.lines[l].debouncer.stable :=
    fun ⟨l, changed⟩ => changed (by simp)
  rw [RaisedBySample, moved, raised]
  by_cases pressed : d.stable = .pressed ∧ (debouncerOf s.panel b).stable = .released
  · rw [if_pos pressed]
    exact ⟨.inr (.inr rfl), ⟨fun h => absurd h (by decide), fun h => absurd h still⟩, fun _ => pressed, fun _ => rfl⟩
  · rw [if_neg pressed]
    exact ⟨.inl rfl, ⟨fun h => absurd h (by decide), fun h => absurd h still⟩, fun h => absurd h (by decide), fun h => absurd h pressed⟩

/-- What every sample leaves, and the horn behind it. -/
theorem raisedBySample {c : Instr} {s t : State} (sample : TakesSample c s) (h : exec c s = .next t) :
    t.points = s.points ∧ t.cfg = s.cfg ∧ t.seq = s.seq ∧ t.panel.horn = hornPattern t ∧ RaisedBySample s t := by
  rcases takesSample_cases sample with ⟨l, d, pins, e⟩ | ⟨b, d, pins, e⟩ <;> rw [e] at h <;> cases h
  · exact ⟨by simp, by simp, by simp, settle_horn _, raisedBySample_line l d (s.setPins pins)⟩
  · exact ⟨by simp, by simp, by simp, settle_horn _, raisedBySample_button b d (s.setPins pins)⟩

/-- Settles O45: every moment is settled with the timers as they stood; and what a sample raises. -/
theorem timersTakeEachMomentOnce : Obligations.TimersTakeEachMomentOnce := by
  refine ⟨fun s t c h row => ?_, fun s c sample => ?_⟩
  · change MomentTaken s t
    rcases row with ⟨gap, frame, heard, moves⟩ | ⟨a, rfl, sends, attempt⟩ | ⟨a, attempt, sends, last⟩ | ⟨n, rfl, receiving, other, known, due⟩
      | sample | ⟨rfl, state, due⟩ | ⟨rfl, state, due⟩ | ⟨rfl, state, due⟩
    · exact momentTaken_frame frame heard moves h
    · rw [exec_ownFrame attempt sends] at h
      cases h
      have own := sameTimers_takeOwn a.content (frameSent a s)
      exact momentTaken_settle ⟨by simp, by simpa using own.t0, by simpa using own.t1, by simpa using own.t2, by simpa using own.t3⟩
    · exact momentTaken_failure attempt sends last h
    · rw [exec_absentTimeout_due receiving other known due] at h
      cases h
      exact momentTaken_settleMembership (sameTimers_of_timers (by simp) (by simp))
    · exact momentTaken_sample sample h
    · rw [exec_listenTimerExpiry_due state due] at h
      cases h
      exact momentTaken_settle (sameTimers_of_timers (by simp) (by simp))
    · rw [exec_syncTimerExpiry_due state due] at h
      cases h
      exact momentTaken_settle (sameTimers_of_timers (by simp) (by simp))
    · rw [exec_holdOffExpiry_due state due] at h
      cases h
      exact momentTaken_settle (sameTimers_of_timers (by simp [awaitGap]) (by simp [awaitGap]))
  · obtain ⟨t, h⟩ := exec_answers c s
    obtain ⟨-, taken1, taken2, taken3⟩ := momentTaken_sample sample h
    obtain ⟨points, cfg, seq, horn, raised, input, button⟩ := raisedBySample sample h
    refine ⟨t, h, points, raised, input, button, fun active => if_neg (taken1.not_expired active),
      fun active => beq_eq_false_iff_ne.2 (taken2.not_expired active), fun active => ⟨taken3.not_expired active, ?_⟩⟩
    rw [horn, horn_of_runs (by rw [seq]; exact sample.1) (taken3.not_expired active), cfg, points]

end Sys2Proof.Machine
end

section
/-! PROOFS. The outputs and their pins, LTX among them (R31, R37, R38, R143 to R147, R159, R191, R201). -/

namespace Sys2Proof.Machine

open Sys2Proof

/-! ## A pin that the part drives (R201) -/

theorem pinLevel_high {s : State} (powered : s.hold.powered = true) (x : Bool) : pinLevel s x = .high ↔ x = true := by
  cases x <;> simp [pinLevel, powered]

theorem pinLevel_low {s : State} (powered : s.hold.powered = true) (x : Bool) : pinLevel s x = .low ↔ x = false := by
  cases x <;> simp [pinLevel, powered]

theorem pinLevel_powered {s : State} (powered : s.hold.powered = true) (x : Bool) : pinLevel s x = if x then .high else .low := if_pos powered

theorem pinLevel_undriven {s : State} (x : Bool) : pinLevel s x = .undriven ↔ s.hold.powered = false := by
  cases powered : s.hold.powered <;> cases x <;> simp [pinLevel, powered]

/-! ## Horn, ALM and FLT by the records (R143 to R147) -/

/-- Some point of the control set has such a record. -/
theorem controlCount_pos_iff {cfg : Configuration} {records : Records} {test : PointRecord → Bool} {P : PointRecord → Prop}
    (h : ∀ r, test r = true ↔ P r) :
    0 < controlCount cfg records test
      ↔ ∃ p : PointIndex, isUsed cfg p = true ∧ cfg.controlSet.getLsbD cfg.points[p].group.val = true ∧ P records[p] := by
  simp only [controlCount_pos, inControlSet_iff, h, and_assoc]

theorem unsilencedCount_pos (cfg : Configuration) (records : Records) :
    0 < unsilencedCount cfg records
      ↔ ∃ p : PointIndex, isUsed cfg p = true ∧ cfg.controlSet.getLsbD cfg.points[p].group.val = true
          ∧ (records[p].state = .alert ∨ records[p].state = .returned) ∧ records[p].silenced = false :=
  controlCount_pos_iff (P := fun r => (r.state = .alert ∨ r.state = .returned) ∧ r.silenced = false) fun r => by
    rw [Bool.and_eq_true, isUnacknowledged_iff, Bool.not_eq_true']

theorem ringbackCount_pos (cfg : Configuration) (records : Records) :
    0 < ringbackCount cfg records
      ↔ ∃ p : PointIndex, isUsed cfg p = true ∧ cfg.controlSet.getLsbD cfg.points[p].group.val = true ∧ records[p].state = .ringback :=
  controlCount_pos_iff (P := fun r => r.state = .ringback) fun _ => beq_iff_eq

theorem almAsserted_iff (s : State) :
    almAsserted s = true
      ↔ (s.seq.state ≠ .off ∧ s.seq.state ≠ .halted)
        ∧ ∃ p : PointIndex, isUsed s.cfg p = true ∧ s.cfg.controlSet.getLsbD s.cfg.points[p].group.val = true
          ∧ (s.points[p].state = .alert ∨ s.points[p].state = .returned ∨ s.points[p].state = .held ∨ s.points[p].state = .ringback) := by
  have alert : 0 < alertCount s.cfg s.points
      ↔ ∃ p : PointIndex, isUsed s.cfg p = true ∧ s.cfg.controlSet.getLsbD s.cfg.points[p].group.val = true
          ∧ (s.points[p].state = .alert ∨ s.points[p].state = .returned ∨ s.points[p].state = .held) :=
    controlCount_pos_iff (P := fun r => r.state = .alert ∨ r.state = .returned ∨ r.state = .held) fun r => by cases r.state <;> simp [isAlertState]
  rw [almAsserted, Bool.and_eq_true, panelRuns_iff, Bool.or_eq_true, decide_eq_true_eq, decide_eq_true_eq, alert, ringbackCount_pos, ← exists_or]
  simp only [← and_or_left, or_assoc]

theorem fltAsserted_iff (s : State) :
    fltAsserted s = true
      ↔ s.seq.state = .off ∨ s.seq.state = .halted ∨ s.seq.state = .withdrawn
        ∨ ∃ p : PointIndex, isUsed s.cfg p = true ∧ s.cfg.controlSet.getLsbD s.cfg.points[p].group.val = true ∧ s.points[p].state = .lost := by
  have lost : 0 < lostCount s.cfg s.points ↔ _ := controlCount_pos_iff (P := fun r => r.state = .lost) fun _ => beq_iff_eq
  simp only [fltAsserted, Bool.or_eq_true, beq_iff_eq, decide_eq_true_eq, lost, or_assoc]

theorem hornPattern_continuous (s : State) :
    hornPattern s = .continuous ↔ panelRuns s.seq.state = true ∧ s.timers.t3 ≠ .expired ∧ 0 < unsilencedCount s.cfg s.points := by
  unfold hornPattern demandedPattern
  by_cases runs : panelRuns s.seq.state = true <;> by_cases sounds : s.timers.t3 = .expired <;>
    by_cases unsilenced : 0 < unsilencedCount s.cfg s.points <;> by_cases ringback : 0 < ringbackCount s.cfg s.points <;>
    simp [runs, sounds, unsilenced, ringback]

theorem hornPattern_intermittent (s : State) :
    hornPattern s = .intermittent
      ↔ panelRuns s.seq.state = true ∧ s.timers.t3 ≠ .expired ∧ ¬ 0 < unsilencedCount s.cfg s.points ∧ 0 < ringbackCount s.cfg s.points := by
  unfold hornPattern demandedPattern
  by_cases runs : panelRuns s.seq.state = true <;> by_cases sounds : s.timers.t3 = .expired <;>
    by_cases unsilenced : 0 < unsilencedCount s.cfg s.points <;> by_cases ringback : 0 < ringbackCount s.cfg s.points <;>
    simp [runs, sounds, unsilenced, ringback]

/-! ## The serial memory's pins (R191) -/

theorem memoryClockPin_high {s : State} (powered : s.hold.powered = true) (k : Nat) :
    memoryClockPin s k = .high ↔ s.loader.state = .reading ∧ k < 19600 ∧ k % 2 = 1 := by
  rw [memoryClockPin, pinLevel_high powered]
  simp only [Bool.and_eq_true, beq_iff_eq, decide_eq_true_eq, readPeriods, and_assoc]

theorem memoryDataPin_rest {s : State} (powered : s.hold.powered = true) {k : Nat} (rest : s.loader.state ≠ .reading ∨ 9800 ≤ k) :
    memoryDataPin s k = some .low := by
  rw [memoryDataPin, if_neg, (pinLevel_low powered false).2 rfl]
  rintro ⟨reading, period⟩
  exact rest.elim (absurd reading) (absurd period ∘ Nat.not_lt.2)

/-- The read command and the address: 03h, 00h, 00h. -/
theorem readCommandBits (k : Nat) (h : k < 24) : (readCommandBytes.flatMap byteBits)[k]? = some (decide (k = 6 ∨ k = 7)) := by
  interval_cases k <;> rfl

theorem memoryDataPin_command {s : State} (powered : s.hold.powered = true) (reading : s.loader.state = .reading) {k : Nat} (h : k < 24) :
    memoryDataPin s k = some (if k = 6 ∨ k = 7 then .high else .low) := by
  rw [memoryDataPin, if_pos ⟨reading, by simp only [readPeriods]; omega⟩, readCommandBits k h, Option.map_some, pinLevel_powered powered]
  by_cases one : k = 6 ∨ k = 7 <;> simp [one]

/-! ## LTX (R31, R37, R38, R39) -/

/-- A sender leaves the line as its frame has it, until it loses arbitration or drives the mark of a mismatch (R37, R38). -/
theorem senderLevel_frame {sent : List Bool} {found : AttemptEnd} {k : Nat}
    (h : ∀ bit : Nat, found = .lostArbitration bit ∨ found = .echoMismatch bit → k ≤ bit) : senderLevel sent found k = sent.getD k true := by
  cases found with
  | lostArbitration bit => exact if_pos (h bit (.inl rfl))
  | echoMismatch bit => exact if_pos (h bit (.inr rfl))
  | voided => rfl
  | successful => rfl

theorem drivenLevel_frame {s : State} {a : Attempt} (drive : s.line.drive = .frame) (attempt : s.line.attempt = some a) (lrx : List Bool) (k : Nat) :
    drivenLevel s lrx k = senderLevel (attemptBits s a) (endOfAttempt s a lrx) k := by
  simp only [drivenLevel, drive, attempt]

theorem drivenLevel_rest {s : State} (lrx : List Bool) (k : Nat) :
    (s.line.drive = .recessive → drivenLevel s lrx k = true) ∧ (s.line.drive = .void → drivenLevel s lrx k = decide (2 ≤ k))
      ∧ (s.line.drive = .faultMark → drivenLevel s lrx k = decide (8 ≤ k)) := by
  refine ⟨fun drive => ?_, fun drive => ?_, fun drive => ?_⟩ <;> simp only [drivenLevel, drive]

/-- Low for so many bit times, then high. -/
theorem pin_of_le {s : State} (powered : s.hold.powered = true) (n k : Nat) : pinLevel s (decide (n ≤ k)) = if k < n then .low else .high := by
  rw [pinLevel_powered powered]
  by_cases h : n ≤ k
  · simp [h, Nat.not_lt.2 h]
  · simp [h, Nat.lt_of_not_le h]

/-- Settles O50: pin by pin, and each output by the records. -/
theorem outputsFollowTheControlSet : Obligations.OutputsFollowTheControlSet := by
  refine fun s => ⟨fun powered => ⟨?_, pinLevel_high powered _, ?_, ?_, ?_, memoryClockPin_high powered, fun k => memoryDataPin_rest powered,
    fun k reading => memoryDataPin_command powered reading, fun lrx k => ⟨fun drive => ?_, fun drive => ?_, fun drive => ?_,
    fun drive a attempt => ⟨rfl, fun before => ?_, fun bit lost behind => ?_⟩⟩⟩, ⟨fun powered lrx k r c => ?_, fun driven => ?_⟩,
    fun dead lrx k r c => ?_, hornDemand_iff .., almAsserted_iff s, fltAsserted_iff s, ?_, ?_⟩
  · exact (pinLevel_high powered _).trans (hornSounds_iff s)
  · exact (pinLevel_high powered _).trans beq_iff_eq
  · rw [fltPin, pinLevel_low powered, Bool.not_eq_false']
  · rw [chipSelectPin, pinLevel_low powered, bne_eq_false_iff_eq]
  · exact (pinLevel_high powered _).2 ((drivenLevel_rest lrx k).1 drive)
  · rw [ltxPin, (drivenLevel_rest lrx k).2.1 drive, pin_of_le powered]
  · rw [ltxPin, (drivenLevel_rest lrx k).2.2 drive, pin_of_le powered]
  · rw [ltxPin, drivenLevel_frame drive attempt, senderLevel_frame before, pinLevel_powered powered]
  · rw [ltxPin, drivenLevel_frame drive attempt, lost, senderLevel, if_neg (Nat.not_le.2 behind)]
    exact (pinLevel_high powered true).2 rfl
  · have driven (x : Bool) : pinLevel s x ≠ .undriven := by rw [ne_eq, pinLevel_undriven, powered]; nofun
    exact ⟨driven _, driven _, driven _, driven _, driven _, driven _, driven _, driven _, driven _⟩
  · obtain ⟨horn, -⟩ := driven [] 0 0 0
    rwa [hornPin, ne_eq, pinLevel_undriven, Bool.not_eq_false] at horn
  · have undriven (x : Bool) : pinLevel s x = .undriven := (pinLevel_undriven x).2 dead
    exact ⟨undriven _, undriven _, undriven _, undriven _, undriven _, undriven _, undriven _, undriven _, undriven _⟩
  · rw [hornPattern_continuous, panelRuns_iff, unsilencedCount_pos, and_assoc]
  · rw [hornPattern_intermittent, panelRuns_iff, unsilencedCount_pos, ringbackCount_pos, and_assoc]
    simp only [not_exists, not_and]

end Sys2Proof.Machine
end

section
/-! PROOFS. The lamp matrix (R164 to R175). -/

namespace Sys2Proof.Machine

open Sys2Proof

/-! ## The pattern a position shows (R164, R166, R170, R172, R175) -/

theorem lampTestActive_iff (s : State) : lampTestActive s = true ↔ panelRuns s.seq.state = true ∧ ∃ ms, s.lamp.test = .active ms := by
  cases test : s.lamp.test <;> simp [lampTestActive, test]

theorem lampTestActive_of_running {s : State} (runs : panelRuns s.seq.state = true) {ms : Nat} (test : s.lamp.test = .active ms) :
    lampTestActive s = true := (lampTestActive_iff s).2 ⟨runs, ms, test⟩

theorem lampTestActive_of_idle {s : State} (test : ∀ ms : Nat, s.lamp.test ≠ .active ms) : lampTestActive s = false := by
  rw [Bool.eq_false_iff, ne_eq, lampTestActive_iff]
  rintro ⟨-, ms, active⟩
  exact test ms active

theorem positionPattern_off {s : State} (h : s.seq.state = .off) (r c : Fin 8) : positionPattern s r c = .dark := by
  simp only [positionPattern, h]

theorem positionPattern_halted {s : State} (h : s.seq.state = .halted) (r c : Fin 8) : positionPattern s r c = .lost := by
  simp only [positionPattern, h]

theorem positionPattern_records {s : State} (runs : panelRuns s.seq.state = true) (test : lampTestActive s = false) (r c : Fin 8) :
    positionPattern s r c = recordPattern s r c := by
  unfold positionPattern
  cases state : s.seq.state <;> simp_all [panelRuns]

theorem positionPattern_test {s : State} {w : DisplayWindow} (display : s.cfg.display = some w) (test : lampTestActive s = true) (r c : Fin 8) :
    positionPattern s r c = if inDisplay w r c then .steady else .dark := by
  obtain ⟨runs, -⟩ := (lampTestActive_iff s).1 test
  unfold positionPattern
  cases state : s.seq.state <;> simp_all [panelRuns]

theorem positionPattern_undisplayed {s : State} (display : s.cfg.display = none) (running : s.seq.state ≠ .halted) (r c : Fin 8) :
    positionPattern s r c = .dark := by
  have record : recordPattern s r c = .dark := by simp [recordPattern, shownPoint, display]
  unfold positionPattern
  cases state : s.seq.state <;> simp_all

theorem shownPoint_inside {cfg : Configuration} {w : DisplayWindow} (display : cfg.display = some w) {r c : Fin 8} {p : PointIndex}
    (place : p.val = (w.originRow + r.val) * 16 + (w.originColumn + c.val)) (row : r.val < w.rows) (column : c.val < w.columns)
    (rowFits : w.originRow + r.val ≤ 15) (columnFits : w.originColumn + c.val ≤ 15) : shownPoint cfg r c = some p := by
  have inside : inDisplay w r c = true := by simp [inDisplay, row, column]
  simp only [shownPoint, display, rowFits, columnFits, and_self, dif_pos, inside, if_true, Option.some.injEq]
  exact Fin.ext place.symm

theorem shownPoint_outside {cfg : Configuration} {w : DisplayWindow} (display : cfg.display = some w) {r c : Fin 8}
    (outside : w.rows ≤ r.val ∨ w.columns ≤ c.val ∨ 15 < w.originRow + r.val ∨ 15 < w.originColumn + c.val) : shownPoint cfg r c = none := by
  simp only [shownPoint, display, inDisplay, Bool.and_eq_true, decide_eq_true_eq]
  split
  · exact if_neg (by omega)
  · rfl

theorem recordPattern_of_shown {s : State} {r c : Fin 8} {p : PointIndex} (shown : shownPoint s.cfg r c = some p) :
    recordPattern s r c = pointPattern s p := by simp only [recordPattern, shown]

theorem recordPattern_of_none {s : State} {r c : Fin 8} (shown : shownPoint s.cfg r c = none) : recordPattern s r c = .dark := by
  simp only [recordPattern, shown]

theorem patternOn_pointPattern (s : State) (p : PointIndex) (phaseMs : Nat) :
    patternOn (pointPattern s p) phaseMs = (isUsed s.cfg p && patternOn (patternOf s.points[p]) phaseMs) := by
  unfold pointPattern
  cases isUsed s.cfg p <;> rfl

/-! ## How long a position is lit (R169) -/

theorem litMicros_dark {s : State} {r c : Fin 8} (dark : positionPattern s r c = .dark) : litMicros s r c = 0 := by
  simp [litMicros, positionOn, dark, patternOn]

theorem standingDrive_overridden {s : State} (h : overridden s = true) : standingDrive s = .full := if_pos h

theorem driveMicros_brightness (s : State) : driveMicros (brightness s) = if s.timers.t1 = .expired then 250 else 1000 := by
  unfold brightness
  split <;> rfl

theorem overridden_halted {s : State} (h : s.seq.state = .halted) : overridden s = true := by simp [overridden, h]

theorem overridden_test {s : State} (h : lampTestActive s = true) : overridden s = true := by simp [overridden, h]

theorem overridden_records {s : State} (runs : panelRuns s.seq.state = true) (test : lampTestActive s = false) : overridden s = false := by
  have running := ((panelRuns_iff _).1 runs).2
  simp [overridden, test, running]

theorem litMicros_halted {s : State} (h : s.seq.state = .halted) (r c : Fin 8) :
    litMicros s r c = if s.lamp.flashPhaseMs % 2000 < 125 then 1000 else 0 := by
  simp [litMicros, positionOn, positionPattern_halted h, standingDrive_overridden (overridden_halted h), driveMicros, patternOn]

theorem litMicros_test {s : State} {w : DisplayWindow} (display : s.cfg.display = some w) (test : lampTestActive s = true) (r c : Fin 8) :
    litMicros s r c = if r.val < w.rows ∧ c.val < w.columns then 1000 else 0 := by
  rw [litMicros, positionOn, positionPattern_test display test, standingDrive_overridden (overridden_test test)]
  by_cases inside : r.val < w.rows ∧ c.val < w.columns <;> simp [inDisplay, inside, patternOn, driveMicros]

theorem litMicros_records {s : State} (runs : panelRuns s.seq.state = true) (test : lampTestActive s = false) (r c : Fin 8) :
    litMicros s r c
      = if patternOn (recordPattern s r c) s.lamp.flashPhaseMs then (if s.timers.t1 = .expired then 250 else 1000) else 0 := by
  rw [litMicros, positionOn, positionPattern_records runs test, standingDrive, overridden_records runs test, ← driveMicros_brightness]
  rfl

theorem columnLit_off {s : State} (h : s.seq.state = .off) (micros : Nat) (c : Fin 8) : columnLit s micros c = false := if_pos h

theorem columnLit_overridden {s : State} (running : s.seq.state ≠ .off) (h : overridden s = true) (micros : Nat) (c : Fin 8) :
    columnLit s micros c = decide (micros < litMicros s s.lamp.scanRow c) := by
  rw [columnLit, if_neg running, if_pos h]

theorem columnLit_slot {s : State} (runs : panelRuns s.seq.state = true) (test : lampTestActive s = false) (micros : Nat) (c : Fin 8) :
    columnLit s micros c = (s.lamp.slotLit[c] && decide (micros < driveMicros s.lamp.slotDrive)) := by
  rw [columnLit, if_neg ((panelRuns_iff _).1 runs).1, overridden_records runs test]
  rfl

/-! ## The next row's slot (R169, R175) -/

/-- The slot that a millisecond begins: what the records show, and the brightness that stands. -/
theorem tick_slot (s : State) (c : Fin 8) :
    (tick s).lamp.slotLit[c] = patternOn (recordPattern (tick s) (tick s).lamp.scanRow c) (tick s).lamp.flashPhaseMs
      ∧ (tick s).lamp.slotDrive = brightness (tick s) := by
  refine ⟨?_, rfl⟩
  simp only [tick, beginSlot, State.lamp_setLamp]
  rw [Fin.getElem_fin, tabulate_get]
  rfl

/-- As a slot begins each column is lit for as long as its position is (R169). -/
theorem columnLit_tick (s : State) (micros : Nat) (c : Fin 8) :
    columnLit (tick s) micros c = decide (micros < litMicros (tick s) (tick s).lamp.scanRow c) := by
  by_cases off : (tick s).seq.state = .off
  · rw [columnLit_off off, litMicros_dark (positionPattern_off off _ _)]
    simp
  · by_cases over' : overridden (tick s) = true
    · exact columnLit_overridden off over' micros c
    · simp only [overridden, Bool.or_eq_true, beq_iff_eq, not_or, Bool.not_eq_true] at over'
      have runs : panelRuns (tick s).seq.state = true := (panelRuns_iff _).2 ⟨off, over'.1⟩
      obtain ⟨lit, drive⟩ := tick_slot s c
      rw [columnLit_slot runs over'.2, litMicros_records runs over'.2, lit, drive, driveMicros_brightness]
      cases patternOn (recordPattern (tick s) (tick s).lamp.scanRow c) (tick s).lamp.flashPhaseMs <;> simp

/-- Settles O51: each kind of display, and the slot that a millisecond begins. -/
theorem matrixShowsTheWindow : Obligations.MatrixShowsTheWindow := by
  refine ⟨fun s empty => ⟨tick s, by simp only [step, empty], rfl, fun r => ?_, fun c micros => ?_, fun c u micros lit drive runs test => ?_⟩,
    fun s r c micros => ⟨fun off => ⟨litMicros_dark (positionPattern_off off r c), columnLit_off off micros c⟩, fun halted => ?_,
      fun display running => litMicros_dark (positionPattern_undisplayed display running r c)⟩,
    fun s w r c display runs => ⟨fun ms test => ?_, fun test => ?_⟩, fun phase h => ?_⟩
  · have row : (tick s).lamp.scanRow = s.lamp.scanRow + 1 := rfl
    have driven : pinLevel (tick s) = pinLevel s := rfl
    have state : (tick s).seq.state = s.seq.state := rfl
    rw [rowPin, row, driven, state, pinLevel]
    by_cases off : s.seq.state = .off
    · simp [off]
    · by_cases scanned : r = s.lamp.scanRow + 1
      · subst scanned
        simp [off]
      · simp [off, scanned, Ne.symm scanned]
  · rw [columnPin, columnLit_tick, pinLevel]
    simp only [decide_eq_true_eq]
    rfl
  · obtain ⟨slot, driven⟩ := tick_slot s c
    rw [columnLit_slot runs (lampTestActive_of_idle test), lit, drive, slot, driven, driveMicros_brightness, Bool.and_comm]
    cases shown : shownPoint (tick s).cfg (tick s).lamp.scanRow c with
    | none => simp only [recordPattern_of_none shown, patternOn]
    | some p =>
      rw [recordPattern_of_shown shown, patternOn_pointPattern]
  · rw [columnLit_overridden (by rw [halted]; nofun) (overridden_halted halted), litMicros_halted halted, litMicros_halted halted]
    refine ⟨rfl, ?_⟩
    by_cases lit : s.lamp.flashPhaseMs % 2000 < 125 <;> simp [lit]
  · have active := lampTestActive_of_running runs test
    refine ⟨litMicros_test display active r c, fun micros column row => ?_⟩
    rw [columnLit_overridden ((panelRuns_iff _).1 runs).1 (overridden_test active), litMicros_test display active, if_pos ⟨row, column⟩,
        decide_eq_true_eq]
  · have records := positionPattern_records runs (lampTestActive_of_idle test) r c
    refine ⟨fun outside => litMicros_dark (by rw [records, recordPattern_of_none (shownPoint_outside display outside)]),
      fun p place row column rowFits columnFits => ?_⟩
    have shown := shownPoint_inside display place row column rowFits columnFits
    rw [litMicros_records runs (lampTestActive_of_idle test), records, recordPattern_of_shown shown, pointPattern]
    refine ⟨shown, fun unused => by simp [unused], fun used => ?_, rfl⟩
    rw [if_pos used, patternOf]
    refine ⟨fun state => by rw [state], fun state => by rw [state], fun state => by rw [state], fun state => by rw [state],
      fun state => by rw [state], fun state => by rw [state], rfl⟩
  · simp only [patternOn, Bool.or_eq_true, Bool.and_eq_true, decide_eq_true_eq, true_and]
    refine ⟨?_, ?_, ?_, ?_⟩ <;> omega

end Sys2Proof.Machine
end

section
/-! PROOFS. What a sender finds on the line, and the counts of failed attempts (R37, R38, R42). -/

namespace Sys2Proof.Machine

open Sys2Proof

/-! ## The first difference (R37, R38) -/

/-- The first bit at which what is seen differs from what is sent. -/
def FirstDifference (sent seen : List Bool) (k : Nat) (b : Bool) : Prop :=
  sent[k]? = some b ∧ seen[k]? = some (!b) ∧ ∀ j : Nat, j < k → sent[j]? = seen[j]?

theorem firstDifference_here (b : Bool) (sent seen : List Bool) : FirstDifference (b :: sent) ((!b) :: seen) 0 b :=
  ⟨rfl, rfl, fun j h => absurd h (Nat.not_lt_zero j)⟩

theorem firstDifference_next (b : Bool) {sent seen : List Bool} {k : Nat} {c : Bool} :
    FirstDifference (b :: sent) (b :: seen) (k + 1) c ↔ FirstDifference sent seen k c := by
  unfold FirstDifference
  simp only [List.getElem?_cons_succ]
  refine and_congr_right fun _ => and_congr_right fun _ => ⟨fun h j hj => ?_, fun h j hj => ?_⟩
  · simpa using h (j + 1) (by omega)
  · cases j with
    | zero => rfl
    | succ j => simpa using h j (by omega)

/-- What the comparison makes of the first difference: lost arbitration for a recessive bit of the field, else an echo mismatch. -/
def endAtDifference (fieldEnd k : Nat) (b : Bool) : AttemptEnd := if b && decide (k < fieldEnd) then .lostArbitration k else .echoMismatch k

theorem compareBits_of_difference {fieldEnd : Nat} {sent seen : List Bool} {k : Nat} {b : Bool} (h : FirstDifference sent seen k b) (start : Nat) :
    compareBits fieldEnd start sent seen = some (endAtDifference fieldEnd (start + k) b) := by
  induction k generalizing start sent seen with
  | zero =>
    obtain ⟨sentHere, seenHere, -⟩ := h
    cases sent with
    | nil => cases sentHere
    | cons x sent =>
      cases seen with
      | nil => cases seenHere
      | cons y seen =>
        simp only [List.getElem?_cons_zero, Option.some.injEq] at sentHere seenHere
        subst sentHere seenHere
        rw [compareBits, endAtDifference]
        cases x <;> by_cases within : start < fieldEnd <;> simp [within]
  | succ k ih =>
    cases sent with
    | nil => cases h.1
    | cons x sent =>
      cases seen with
      | nil => cases h.2.1
      | cons y seen =>
        have same : x = y := by simpa using h.2.2 0 (Nat.succ_pos k)
        subst same
        have next := ih ((firstDifference_next x).1 h) (start + 1)
        simp only [compareBits, beq_self_eq_true, if_true, next, Nat.add_right_comm, Nat.add_assoc]

/-- Bits that show no difference: one reading is the beginning of the other. -/
theorem compareBits_cases (fieldEnd start : Nat) (sent seen : List Bool) :
    (∃ k b, FirstDifference sent seen k b) ∨ (compareBits fieldEnd start sent seen = none ∧ (sent <+: seen ∨ seen <+: sent)) := by
  induction sent generalizing start seen with
  | nil => exact .inr ⟨by simp [compareBits], .inl (List.nil_prefix)⟩
  | cons x sent ih =>
    cases seen with
    | nil => exact .inr ⟨by simp [compareBits], .inr (List.nil_prefix)⟩
    | cons y seen =>
      by_cases same : x = y
      · subst same
        rcases ih (start + 1) seen with ⟨k, b, difference⟩ | ⟨none, ahead⟩
        · exact .inl ⟨k + 1, b, (firstDifference_next x).2 difference⟩
        · refine .inr ⟨by simpa [compareBits] using none, ahead.imp ?_ ?_⟩ <;> exact (List.prefix_cons_inj x).2
      · have other : y = !x := by cases x <;> cases y <;> simp_all
        rw [other]
        exact .inl ⟨0, x, firstDifference_here x sent seen⟩

theorem not_difference_of_prefix {sent seen : List Bool} (h : sent <+: seen ∨ seen <+: sent) {k : Nat} {b : Bool} :
    ¬ FirstDifference sent seen k b := by
  rintro ⟨sentHere, seenHere, -⟩
  have same (short long : List Bool) (ahead : short <+: long) {x y : Bool} (hx : short[k]? = some x) (hy : long[k]? = some y) : x = y := by
    obtain ⟨rest, rfl⟩ := ahead
    have inside := (List.getElem?_eq_some_iff.1 hx).1
    rw [List.getElem?_append_left inside, hx] at hy
    exact Option.some.inj hy
  rcases h with ahead | ahead
  · cases b <;> exact absurd (same _ _ ahead sentHere seenHere) (by decide)
  · cases b <;> exact absurd (same _ _ ahead seenHere sentHere) (by decide)

theorem FirstDifference.unique {sent seen : List Bool} {j k : Nat} {b c : Bool} (h : FirstDifference sent seen j b)
    (g : FirstDifference sent seen k c) : j = k ∧ b = c := by
  have later {j k : Nat} {b c : Bool} (h : FirstDifference sent seen j b) (g : FirstDifference sent seen k c) : ¬ j < k := fun lt => by
    have same := g.2.2 j lt
    rw [h.1, h.2.1] at same
    cases b <;> cases same
  have at_same : j = k := le_antisymm (not_lt.1 (later g h)) (not_lt.1 (later h g))
  subst at_same
  exact ⟨rfl, Option.some.inj (h.1.symm.trans g.1)⟩

/-! ## The four ends of an attempt (R42) -/

theorem attemptEnd_of_difference {arbitration : Byte} {payload : List Byte} {seen : List Bool} {k : Nat} {b : Bool}
    (h : FirstDifference (comparedBits arbitration payload) seen k b) :
    attemptEnd arbitration payload seen = endAtDifference (arbitrationLength arbitration payload) k b := by
  simp only [attemptEnd, compareBits_of_difference h 0, Nat.zero_add]

theorem endAtDifference_lost {fieldEnd j k : Nat} {b : Bool} :
    endAtDifference fieldEnd j b = .lostArbitration k ↔ j = k ∧ b = true ∧ j < fieldEnd := by
  unfold endAtDifference
  cases b <;> by_cases within : j < fieldEnd <;> simp [within]

theorem endAtDifference_mismatch {fieldEnd j k : Nat} {b : Bool} :
    endAtDifference fieldEnd j b = .echoMismatch k ↔ j = k ∧ (b = false ∨ fieldEnd ≤ j) := by
  unfold endAtDifference
  cases b <;> by_cases within : j < fieldEnd <;> simp [within, Nat.not_le.2, Nat.not_lt.1]

/-- With no difference the attempt is voided or successful, by the void slot (R40, R42). -/
theorem attemptEnd_of_same {arbitration : Byte} {payload : List Byte} {seen : List Bool}
    (h : comparedBits arbitration payload <+: seen ∨ seen <+: comparedBits arbitration payload) :
    attemptEnd arbitration payload seen
      = if ((seen.drop (comparedBits arbitration payload).length).take 2).all id then .successful else .voided := by
  have none : compareBits (arbitrationLength arbitration payload) 0 (comparedBits arbitration payload) seen = none := by
    rcases compareBits_cases (arbitrationLength arbitration payload) 0 (comparedBits arbitration payload) seen with ⟨k, b, difference⟩ | ⟨none, -⟩
    · exact absurd difference (not_difference_of_prefix h)
    · exact none
  simp only [attemptEnd, none]

theorem attemptEnd_lost_iff (arbitration : Byte) (payload : List Byte) (seen : List Bool) (k : Nat) :
    attemptEnd arbitration payload seen = .lostArbitration k
      ↔ k < arbitrationLength arbitration payload ∧ FirstDifference (comparedBits arbitration payload) seen k true := by
  rcases compareBits_cases (arbitrationLength arbitration payload) 0 (comparedBits arbitration payload) seen with ⟨j, b, difference⟩ | ⟨-, same⟩
  · rw [attemptEnd_of_difference difference, endAtDifference_lost]
    refine ⟨?_, fun ⟨within, first⟩ => ?_⟩
    · rintro ⟨rfl, rfl, within⟩
      exact ⟨within, difference⟩
    obtain ⟨rfl, rfl⟩ := difference.unique first
    exact ⟨rfl, rfl, within⟩
  · rw [attemptEnd_of_same same]
    exact ⟨fun h => (by split at h <;> cases h), fun ⟨_, first⟩ => absurd first (not_difference_of_prefix same)⟩

theorem attemptEnd_mismatch_iff (arbitration : Byte) (payload : List Byte) (seen : List Bool) (k : Nat) :
    attemptEnd arbitration payload seen = .echoMismatch k
      ↔ ∃ b : Bool, FirstDifference (comparedBits arbitration payload) seen k b ∧ (b = false ∨ arbitrationLength arbitration payload ≤ k) := by
  rcases compareBits_cases (arbitrationLength arbitration payload) 0 (comparedBits arbitration payload) seen with ⟨j, b, difference⟩ | ⟨-, same⟩
  · rw [attemptEnd_of_difference difference, endAtDifference_mismatch]
    refine ⟨?_, fun ⟨c, first, behind⟩ => ?_⟩
    · rintro ⟨rfl, behind⟩
      exact ⟨b, difference, behind⟩
    obtain ⟨rfl, rfl⟩ := difference.unique first
    exact ⟨rfl, behind⟩
  · rw [attemptEnd_of_same same]
    exact ⟨fun h => (by split at h <;> cases h), fun ⟨_, first, _⟩ => absurd first (not_difference_of_prefix same)⟩

/-- A dominant bit among the next two. -/
theorem take_two_all (l : List Bool) : (l.take 2).all id = false ↔ l[0]? = some false ∨ l[1]? = some false := by
  match l with
  | [] => simp
  | [a] => cases a <;> simp
  | a :: b :: rest => cases a <;> cases b <;> simp

theorem attemptEnd_voided_iff (arbitration : Byte) (payload : List Byte) (seen : List Bool) :
    attemptEnd arbitration payload seen = .voided
      ↔ (comparedBits arbitration payload <+: seen
          ∧ (seen[(comparedBits arbitration payload).length]? = some false ∨ seen[(comparedBits arbitration payload).length + 1]? = some false)) := by
  rcases compareBits_cases (arbitrationLength arbitration payload) 0 (comparedBits arbitration payload) seen with ⟨j, b, difference⟩ | ⟨-, same⟩
  · rw [attemptEnd_of_difference difference]
    refine ⟨fun h => ?_, fun ⟨ahead, _⟩ => absurd difference (not_difference_of_prefix (.inl ahead))⟩
    unfold endAtDifference at h
    split at h <;> cases h
  · have slot := take_two_all (seen.drop (comparedBits arbitration payload).length)
    rw [List.getElem?_drop, List.getElem?_drop, Nat.add_zero] at slot
    rw [attemptEnd_of_same same, ← slot]
    have voided : (if ((seen.drop (comparedBits arbitration payload).length).take 2).all id = true then AttemptEnd.successful else .voided) = .voided
        ↔ ((seen.drop (comparedBits arbitration payload).length).take 2).all id = false := by
      cases ((seen.drop (comparedBits arbitration payload).length).take 2).all id <;> simp
    rw [voided]
    refine ⟨fun dominant => ⟨same.resolve_right fun short => ?_, dominant⟩, fun h => h.2⟩
    rw [List.drop_eq_nil_of_le short.length_le] at dominant
    cases dominant

/-! ## The fault mark of an echo mismatch (R38, R39) -/

theorem ltxPin_mismatch {s : State} {a : Attempt} {lrx : List Bool} {bit : Nat} (powered : s.hold.powered = true) (drive : s.line.drive = .frame)
    (attempt : s.line.attempt = some a) (found : endOfAttempt s a lrx = .echoMismatch bit) (k : Nat) :
    ltxPin s lrx k
      = if k ≤ bit then (if (attemptBits s a).getD k true then .high else .low) else if k ≤ bit + 8 then .low else .high := by
  rw [ltxPin, drivenLevel_frame drive attempt, found, senderLevel, pinLevel_powered powered]
  by_cases before : k ≤ bit
  · simp only [if_pos before]
  · by_cases marked : k ≤ bit + 8
    · simp [before, marked, Nat.not_lt.2 marked]
    · simp [before, marked, Nat.lt_of_not_le marked]

/-- Settles O17: the ends by the first difference, the mark, and the counts short of the limits. -/
theorem failedAttemptsAreCounted : Obligations.FailedAttemptsAreCounted := by
  refine ⟨fun arbitration payload seen => ⟨rfl, fun k => ?_, fun k => ?_, attemptEnd_voided_iff arbitration payload seen⟩,
    fun s a lrx bit k powered drive attempt found => ltxPin_mismatch powered drive attempt found k,
    fun s a sends attempt => ⟨?_, fun short => ?_, fun short below => ?_⟩⟩
  · exact attemptEnd_lost_iff arbitration payload seen k
  · rw [attemptEnd_mismatch_iff]
    refine exists_congr fun b => ⟨fun ⟨⟨sent, other, same⟩, behind⟩ => ⟨sent, other, behind, same⟩,
      fun ⟨sent, other, behind, same⟩ => ⟨⟨sent, other, same⟩, behind⟩⟩
  · exact ⟨_, exec_lostArbitration sends attempt, repairTest_of_line rfl rfl⟩
  · rw [exec_attemptVoided sends attempt, afterFailure_short 0 short]
    exact ⟨_, rfl, repairTest_of_line rfl rfl⟩
  · rw [exec_echoMismatch sends attempt, if_neg (by omega), afterFailure_short _ short]
    exact ⟨_, rfl, repairTest_of_line rfl rfl⟩

end Sys2Proof.Machine
end

section
/-! PROOFS. Bit insertion and its removal, and what a receiver reads of a frame (R33 to R40, R54). -/

namespace Sys2Proof.Machine

open Sys2Proof

/-! ## The bits of a number (R53) -/

theorem bitsValue_append (xs ys : List Bool) : bitsValue (xs ++ ys) = bitsValue xs * 2 ^ ys.length + bitsValue ys := by
  have from_start (n : Nat) (ys : List Bool) : ys.foldl (fun n b => 2 * n + b.toNat) n = n * 2 ^ ys.length + bitsValue ys := by
    induction ys generalizing n with
    | nil => simp [bitsValue]
    | cons b ys ih =>
      rw [bitsValue, List.foldl_cons, List.foldl_cons, ih, ih (2 * 0 + b.toNat), List.length_cons, Nat.pow_succ]
      ring
  rw [bitsValue, List.foldl_append]
  exact from_start _ ys

theorem byteBits_value (b : Byte) : BitVec.ofNat 8 (bitsValue (byteBits b)) = b := by
  have spelled := byteBits_ofNat (b.getLsbD 7) (b.getLsbD 6) (b.getLsbD 5) (b.getLsbD 4) (b.getLsbD 3) (b.getLsbD 2) (b.getLsbD 1) (b.getLsbD 0)
  change byteBits (BitVec.ofNat 8 (bitsValue (byteBits b))) = byteBits b at spelled
  refine BitVec.eq_of_getLsbD_eq fun i hi => ?_
  have place := congrArg (·[7 - i]?) spelled
  simp only [byteBits_getElem _ (7 - i) (by omega), Option.some.injEq] at place
  rwa [Nat.sub_sub_self (by omega)] at place

theorem bitsValue_lt (bits : List Bool) : bitsValue bits < 2 ^ bits.length := by
  induction bits with
  | nil => simp [bitsValue]
  | cons b bits ih =>
    have split := bitsValue_append [b] bits
    rw [List.singleton_append] at split
    have bit : bitsValue [b] ≤ 1 := by cases b <;> decide
    rw [split, List.length_cons, Nat.pow_succ]
    nlinarith

theorem bitsValue_byteBits (b : Byte) : bitsValue (byteBits b) = b.toNat := by
  have value := congrArg BitVec.toNat (byteBits_value b)
  have bound : bitsValue (byteBits b) < 2 ^ 8 := bitsValue_lt (byteBits b)
  rwa [BitVec.toNat_ofNat, Nat.mod_eq_of_lt bound] at value

theorem bitsValue_wordBits (w : Word) : bitsValue (wordBits w) = w.toNat := by
  rw [wordBits, bitsValue_append, bitsValue_byteBits, bitsValue_byteBits, byteBits_length]
  simp only [highByte, lowByte, BitVec.extractLsb'_toNat]
  omega

theorem bitsValue_lengthBits {n : Nat} (h : n ≤ 31) : bitsValue (lengthBits n) = n := by
  interval_cases n <;> rfl

theorem bytesOfBits_byteBits (bytes : List Byte) : bytesOfBits (bytes.flatMap byteBits) = bytes := by
  induction bytes with
  | nil => rfl
  | cons b bytes ih =>
    have first : bytesOfBits (byteBits b ++ bytes.flatMap byteBits)
        = BitVec.ofNat 8 (bitsValue (byteBits b)) :: bytesOfBits (bytes.flatMap byteBits) := rfl
    rw [List.flatMap_cons, first, byteBits_value, ih]

theorem flatMap_byteBits_length (bytes : List Byte) : (bytes.flatMap byteBits).length = 8 * bytes.length := by
  induction bytes with
  | nil => rfl
  | cons b bytes ih => rw [List.flatMap_cons, List.length_append, ih, byteBits_length, List.length_cons]; omega

/-- The class and the number that the arbitration field holds (R34, R36). -/
theorem arbitrationField_reads (cls : FrameClass) (sender : StationField) :
    classOfCode (BitVec.ofNat 3 (bitsValue ((byteBits (arbitrationField cls sender)).take 3))) = cls
      ∧ BitVec.ofNat 5 (bitsValue ((byteBits (arbitrationField cls sender)).drop 3)) = sender := by
  revert sender
  cases cls <;> decide

/-! ## The run that stands on the line (R33) -/

/-- The run that stands after the bits of the line, the inserted ones among them; none at a coding break. -/
def lineState (level : Bool) (run : Nat) : List Bool → Option (Bool × Nat)
  | [] => some (level, run)
  | b :: rest =>
    if run = 4 then if b == level then none else lineState b 1 rest
    else lineState b (if b == level then run + 1 else 1) rest

/-- What a receiver takes out of a stretch of the line is what it takes out of its parts. -/
theorem removeBitsFrom_append {level : Bool} {run : Nat} {l m bits : List Bool} (h : removeBitsFrom level run (l ++ m) = some bits) :
    ∃ a b level' run', removeBitsFrom level run l = some a ∧ lineState level run l = some (level', run')
      ∧ removeBitsFrom level' run' m = some b ∧ bits = a ++ b := by
  induction l generalizing level run bits with
  | nil => exact ⟨[], bits, level, run, rfl, rfl, h, rfl⟩
  | cons x l ih =>
    simp only [List.cons_append, removeBitsFrom, lineState] at h ⊢
    split at h
    · next full =>
      split at h
      · cases h
      · next other =>
        obtain ⟨a, b, level', run', first, state, second, joined⟩ := ih h
        exact ⟨a, b, level', run', by simpa [full, other] using first, by simpa [full, other] using state, second, joined⟩
    · next short =>
      split at h
      · next same =>
        obtain ⟨bits', found, rfl⟩ := Option.map_eq_some_iff.1 h
        obtain ⟨a, b, level', run', first, state, second, rfl⟩ := ih found
        exact ⟨x :: a, b, level', run', by simp [short, same, first], by simpa [short, same] using state, second, rfl⟩
      · next other =>
        obtain ⟨bits', found, rfl⟩ := Option.map_eq_some_iff.1 h
        obtain ⟨a, b, level', run', first, state, second, rfl⟩ := ih found
        exact ⟨x :: a, b, level', run', by simp [short, other, first], by simpa [short, other] using state, second, rfl⟩

/-- A fifth equal bit is a coding break to whoever removes the inserted bits (R33, R39). -/
theorem removeBitsFrom_break {level v : Bool} {run : Nat} {l : List Bool} (h : lineState level run l = some (v, 4)) (after : List Bool) :
    removeBitsFrom level run (l ++ v :: after) = none := by
  by_contra sound
  obtain ⟨bits, sound⟩ := Option.ne_none_iff_exists'.1 sound
  obtain ⟨a, b, level', run', -, state, second, -⟩ := removeBitsFrom_append sound
  rw [h, Option.some.injEq, Prod.mk.injEq] at state
  obtain ⟨rfl, rfl⟩ := state
  simp [removeBitsFrom] at second

theorem lineState_append {level : Bool} {run : Nat} {l m : List Bool} {state : Bool × Nat} (h : lineState level run (l ++ m) = some state)
    (short : run ≤ 4) : ∃ level' run', lineState level' run' m = some state ∧ run' ≤ 4 := by
  induction l generalizing level run with
  | nil => exact ⟨level, run, h, short⟩
  | cons b l ih =>
    simp only [List.cons_append, lineState] at h
    split at h
    · split at h
      · cases h
      · exact ih h (by omega)
    · exact ih h (by split <;> omega)

/-- The run behind four equal bits. -/
theorem lineState_four {level v : Bool} {run : Nat} {l : List Bool} {state : Bool × Nat} (short : run ≤ 4)
    (h : lineState level run (l ++ List.replicate 4 v) = some state) : state = (v, 4) := by
  obtain ⟨x, r, stands, short'⟩ := lineState_append h short
  cases x <;> cases v <;> interval_cases r <;> simp [lineState, List.replicate] at stands <;> exact stands.symm

/-! ## Insertion and removal (R33) -/

theorem removeBitsFrom_insertBitsFrom {level : Bool} {run : Nat} (bits : List Bool) (short : run ≤ 3) :
    removeBitsFrom level run (insertBitsFrom level run bits) = some bits := by
  induction bits generalizing level run with
  | nil => rfl
  | cons b bits ih =>
    unfold insertBitsFrom
    split
    · next same =>
      split
      · next full => simp [removeBitsFrom, full, same, ih]
      · next more => simp [removeBitsFrom, same, ih (level := b) (run := run + 1) (by omega), show run ≠ 4 by omega]
    · next other => simp [removeBitsFrom, other, ih (level := b) (run := 1) (by omega), show run ≠ 4 by omega]

theorem removeBits_insertBits (bits : List Bool) : removeBits (insertBits bits) = some bits := removeBitsFrom_insertBitsFrom bits (by omega)

/-- A span as sent stands at a run of three at most: a fourth equal bit has its inserted bit behind it. -/
theorem lineState_insertBitsFrom {level : Bool} {run : Nat} (bits : List Bool) (short : run ≤ 3) :
    ∃ level' run', lineState level run (insertBitsFrom level run bits) = some (level', run') ∧ run' ≤ 3 := by
  induction bits generalizing level run with
  | nil => exact ⟨level, run, rfl, short⟩
  | cons b bits ih =>
    unfold insertBitsFrom
    split
    · next same =>
      split
      · next full => simpa [lineState, full, same] using ih (level := !b) (run := 1) (by omega)
      · next more => simpa [lineState, same, show run ≠ 4 by omega] using ih (level := b) (run := run + 1) (by omega)
    · next other => simpa [lineState, other, show run ≠ 4 by omega] using ih (level := b) (run := 1) (by omega)

/-! ## Reading a stretch of data bits (R33, R39) -/

/-- Enough data bits: they are read, and what follows is read on from where they end. -/
theorem readSpan_of_enough {level : Bool} {run need : Nat} {l bits : List Bool} {state : Bool × Nat}
    (sound : removeBitsFrom level run l = some bits) (stands : lineState level run l = some state) (enough : need ≤ bits.length) (m : List Bool) :
    ∃ level' run' l', readSpan level run need (l ++ m) = .read (bits.take need) level' run' (l' ++ m)
      ∧ lineState level' run' l' = some state ∧ removeBitsFrom level' run' l' = some (bits.drop need) := by
  induction l generalizing level run need bits with
  | nil =>
    cases sound
    obtain rfl : need = 0 := by simpa using enough
    exact ⟨level, run, [], by simp [readSpan], stands, rfl⟩
  | cons b l ih =>
    cases need with
    | zero => exact ⟨level, run, b :: l, by simp [readSpan], stands, by simpa using sound⟩
    | succ need =>
      simp only [removeBitsFrom, lineState] at sound stands
      simp only [List.cons_append, readSpan]
      split
      · next full =>
        simp only [if_pos full] at sound stands
        split
        · next same => simp [same] at sound
        · next other =>
          simp only [other] at sound stands
          exact ih sound stands enough
      · next short =>
        simp only [if_neg short] at sound stands
        have found : ∃ bits', removeBitsFrom b (if b == level then run + 1 else 1) l = some bits' ∧ b :: bits' = bits := by
          split at sound <;> rename_i h <;> simpa [h] using Option.map_eq_some_iff.1 sound
        obtain ⟨bits', found, rfl⟩ := found
        obtain ⟨level', run', l', read, state', rest⟩ := ih found stands (Nat.le_of_succ_le_succ enough)
        exact ⟨level', run', l', by rw [read]; rfl, state', rest⟩

/-- Too few data bits ahead of a fifth equal bit: a coding break. -/
theorem readSpan_break {level v : Bool} {run need : Nat} {l bits : List Bool} (sound : removeBitsFrom level run l = some bits)
    (stands : lineState level run l = some (v, 4)) (few : bits.length < need) (after : List Bool) :
    readSpan level run need (l ++ v :: after) = .codingBreak := by
  induction l generalizing level run need bits with
  | nil =>
    cases stands
    obtain ⟨need, rfl⟩ := Nat.exists_eq_succ_of_ne_zero (Nat.ne_of_gt (Nat.lt_of_le_of_lt (Nat.zero_le _) few))
    simp [readSpan]
  | cons b l ih =>
    obtain ⟨need, rfl⟩ := Nat.exists_eq_succ_of_ne_zero (Nat.ne_of_gt (Nat.lt_of_le_of_lt (Nat.zero_le _) few))
    simp only [removeBitsFrom, lineState] at sound stands
    simp only [List.cons_append, readSpan]
    split
    · next full =>
      simp only [if_pos full] at sound stands
      split
      · rfl
      · next other =>
        simp only [other] at sound stands
        exact ih sound stands few
    · next short =>
      simp only [if_neg short] at sound stands
      have found : ∃ bits', removeBitsFrom b (if b == level then run + 1 else 1) l = some bits' ∧ b :: bits' = bits := by
        split at sound <;> rename_i h <;> simpa [h] using Option.map_eq_some_iff.1 sound
      obtain ⟨bits', found, rfl⟩ := found
      rw [ih found stands (Nat.lt_of_succ_lt_succ few)]
      rfl

end Sys2Proof.Machine
end

section
/-! PROOFS. Frames read from the line, sound and at fault (R33 to R40, R54). -/

namespace Sys2Proof.Machine

open Sys2Proof

/-! ## From the start bit to the check (R34, R39) -/

/-- The header's bits: start bit, arbitration field and length (R34). -/
def headerBits (arbitration : Byte) (n : Nat) : List Bool := false :: (byteBits arbitration ++ lengthBits n)

theorem headerBits_length (arbitration : Byte) (n : Nat) : (headerBits arbitration n).length = 14 := rfl

theorem headerBits_append (arbitration : Byte) (n : Nat) (body : List Bool) :
    false :: (byteBits arbitration ++ lengthBits n ++ body) = headerBits arbitration n ++ body := rfl

theorem headerBits_reads (arbitration : Byte) {n : Nat} (h : n ≤ 31) :
    bitsValue ((headerBits arbitration n).drop 9) = n ∧ (byteBits arbitration ++ lengthBits n).take 3 = (byteBits arbitration).take 3
      ∧ ((headerBits arbitration n).drop 4).take 5 = (byteBits arbitration).drop 3
      ∧ (headerBits arbitration n).drop 1 = byteBits arbitration ++ lengthBits n :=
  ⟨bitsValue_lengthBits h, rfl, rfl, rfl⟩

theorem readFrame_of_break {gap : Nat} {lrx : List Bool} (start : lrx.head? = some false) (h : readSpan true 0 14 lrx = .codingBreak) :
    readFrame gap lrx = some (.faultyFrameReceived ⟨gap, .codingBreak⟩) := by
  cases lrx with
  | nil => cases start
  | cons b rest =>
    cases start
    simp only [readFrame, h]

theorem readFrame_of_header {gap : Nat} {lrx : List Bool} {arbitration : Byte} {n : Nat} {level : Bool} {run : Nat} {rest : List Bool}
    (start : lrx.head? = some false) (fits : n ≤ 31) (h : readSpan true 0 14 lrx = .read (headerBits arbitration n) level run rest) :
    readFrame gap lrx
      = if 16 < n then some (.faultyFrameReceived ⟨gap, .lengthFault⟩) else readBody gap (headerBits arbitration n) level run rest := by
  cases lrx with
  | nil => cases start
  | cons b l =>
    cases start
    simp only [readFrame, h, (headerBits_reads arbitration fits).1]

/-- The first bit of a stretch is no inserted one. -/
theorem head_of_removed {l bits : List Bool} {b : Bool} (h : removeBits l = some (b :: bits)) : l.head? = some b := by
  cases l with
  | nil => cases h
  | cons x l =>
    simp only [removeBits, removeBitsFrom] at h
    split at h
    · next zero => cases zero
    · split at h <;> obtain ⟨_, -, e⟩ := Option.map_eq_some_iff.1 h <;> cases e <;> rfl

/-- A stretch with the header, and what follows of it. -/
theorem readSpan_header {l bits : List Bool} {arbitration : Byte} {n : Nat} {state : Bool × Nat}
    (sound : removeBits l = some (headerBits arbitration n ++ bits)) (stands : lineState true 0 l = some state) (m : List Bool) :
    ∃ level run l', readSpan true 0 14 (l ++ m) = .read (headerBits arbitration n) level run (l' ++ m)
      ∧ lineState level run l' = some state ∧ removeBitsFrom level run l' = some bits := by
  obtain ⟨level, run, l', read, state', rest⟩ := readSpan_of_enough (need := 14) sound stands (by rw [List.length_append, headerBits_length]; omega) m
  refine ⟨level, run, l', ?_, state', ?_⟩
  · rwa [List.take_left' (headerBits_length arbitration n)] at read
  · rwa [List.drop_left' (headerBits_length arbitration n)] at rest

/-- The frame command of the bits read: its class, its number and its payload (R36, R40). -/
def commandRead (gap : Nat) (arbitration : Byte) (payload : List Bool) : Instr :=
  frameCommand (classOfCode (BitVec.ofNat 3 (bitsValue ((byteBits arbitration).take 3))))
    ⟨gap, BitVec.ofNat 5 (bitsValue ((byteBits arbitration).drop 3))⟩ (bytesOfBits payload)

/-- Payload and check, read to the end of the span. -/
theorem readBody_of_enough {gap : Nat} {arbitration : Byte} {n : Nat} {level : Bool} {run : Nat} {l body : List Bool} {state : Bool × Nat}
    (fits : n ≤ 16) (length : body.length = 8 * n + 16) (sound : removeBitsFrom level run l = some body) (stands : lineState level run l = some state)
    (m : List Bool) :
    ∃ level' run' l', lineState level' run' l' = some state ∧ removeBitsFrom level' run' l' = some []
      ∧ readBody gap (headerBits arbitration n) level run (l ++ m)
          = if bitsValue (body.drop (8 * n)) = (checkOfBits (byteBits arbitration ++ lengthBits n ++ body.take (8 * n))).toNat then
              readSpanEnd gap (commandRead gap arbitration (body.take (8 * n))) level' run' (l' ++ m)
            else some (.faultyFrameReceived ⟨gap, .checkFault⟩) := by
  obtain ⟨level', run', l', read, state', rest⟩ := readSpan_of_enough sound stands (Nat.le_of_eq length.symm) m
  obtain ⟨value, cls, sender, checked⟩ := headerBits_reads arbitration (n := n) (by omega)
  rw [List.drop_of_length_le (Nat.le_of_eq length)] at rest
  rw [List.take_of_length_le (Nat.le_of_eq length)] at read
  refine ⟨level', run', l', state', rest, ?_⟩
  simp only [readBody, value, read, sender, checked, cls, commandRead]

/-- Nothing but an inserted bit holds no data bit. -/
theorem removed_nil {level : Bool} {run : Nat} {l : List Bool} (h : removeBitsFrom level run l = some []) : l = [] ∨ (run = 4 ∧ l = [!level]) := by
  cases l with
  | nil => exact .inl rfl
  | cons b l =>
    right
    simp only [removeBitsFrom] at h
    split at h
    · next full =>
      split at h
      · cases h
      · next other =>
        refine ⟨full, ?_⟩
        have opposite : b = !level := by cases b <;> cases level <;> simp_all
        cases l with
        | nil => rw [opposite]
        | cons c l =>
          simp only [removeBitsFrom] at h
          split at h
          · next four => cases four
          · split at h <;> obtain ⟨_, -, e⟩ := Option.map_eq_some_iff.1 h <;> cases e
    · split at h <;> obtain ⟨_, -, e⟩ := Option.map_eq_some_iff.1 h <;> cases e

/-- Behind a span with its inserted bits the delimiter follows (R33, R34). -/
theorem readSpanEnd_of_sent {gap : Nat} {frame : Instr} {level level' : Bool} {run run' : Nat} {l : List Bool}
    (nothing : removeBitsFrom level run l = some []) (stands : lineState level run l = some (level', run')) (short : run' ≤ 3) (m : List Bool) :
    readSpanEnd gap frame level run (l ++ m) = readDelimiter gap frame m := by
  rcases removed_nil nothing with rfl | ⟨rfl, rfl⟩
  · cases stands
    exact if_neg (by omega)
  · cases level <;> rfl

/-- In place of the inserted bit behind the check a fifth equal bit is a coding break (R33, R39). -/
theorem readSpanEnd_of_break {gap : Nat} {frame : Instr} {level v : Bool} {run : Nat} {l : List Bool}
    (nothing : removeBitsFrom level run l = some []) (stands : lineState level run l = some (v, 4)) (rest : List Bool) :
    readSpanEnd gap frame level run (l ++ v :: rest) = some (.faultyFrameReceived ⟨gap, .codingBreak⟩) := by
  rcases removed_nil nothing with rfl | ⟨rfl, rfl⟩
  · cases stands
    simp [readSpanEnd]
  · cases level <;> cases v <;> simp [lineState] at stands

/-! ## A sent span and what follows it -/

theorem head_append {l m : List Bool} {b : Bool} (h : l.head? = some b) : (l ++ m).head? = some b := by
  cases l with
  | nil => cases h
  | cons x l => exact h

/-- A frame whose length field is 0 to 16, by its check (R39, R54). -/
theorem readFrame_sent {gap : Nat} {arbitration : Byte} {n : Nat} {body : List Bool} (fits : n ≤ 16) (length : body.length = 8 * n + 16)
    (m : List Bool) :
    readFrame gap (insertBits (headerBits arbitration n ++ body) ++ m)
      = if bitsValue (body.drop (8 * n)) = (checkOfBits (byteBits arbitration ++ lengthBits n ++ body.take (8 * n))).toNat then
          readDelimiter gap (commandRead gap arbitration (body.take (8 * n))) m
        else some (.faultyFrameReceived ⟨gap, .checkFault⟩) := by
  have sound := removeBits_insertBits (headerBits arbitration n ++ body)
  obtain ⟨level, run, stands, short⟩ := lineState_insertBitsFrom (level := true) (run := 0) (headerBits arbitration n ++ body) (by omega)
  obtain ⟨level₁, run₁, l₁, read, state₁, sound₁⟩ := readSpan_header sound stands m
  obtain ⟨level₂, run₂, l₂, state₂, sound₂, body_read⟩ := readBody_of_enough (gap := gap) (arbitration := arbitration) fits length sound₁ state₁ m
  rw [readFrame_of_header (head_append (head_of_removed sound)) (by omega) read, if_neg (by omega), body_read,
    readSpanEnd_of_sent sound₂ state₂ short]

theorem readFrame_length {gap : Nat} {arbitration : Byte} {n : Nat} (long : 17 ≤ n) (fits : n ≤ 31) (m : List Bool) :
    readFrame gap (insertBits (headerBits arbitration n) ++ m) = some (.faultyFrameReceived ⟨gap, .lengthFault⟩) := by
  have sound := removeBits_insertBits (headerBits arbitration n)
  obtain ⟨level, run, stands, -⟩ := lineState_insertBitsFrom (level := true) (run := 0) (headerBits arbitration n) (by omega)
  obtain ⟨level₁, run₁, l₁, read, -⟩ := readSpan_header (bits := []) (by rw [List.append_nil]; exact sound) stands m
  rw [readFrame_of_header (head_append (head_of_removed sound)) fits read, if_pos (by omega)]

/-- A coding break within the span (R33, R39). -/
theorem readFrame_break {gap : Nat} {arbitration : Byte} {n : Nat} {body l rest : List Bool} {v : Bool} (fits : n ≤ 31)
    (length : body.length = (if n ≤ 16 then 8 * n + 16 else 0)) (sent : insertBits (headerBits arbitration n ++ body) = l ++ rest)
    (stands : lineState true 0 l = some (v, 4)) (more : 2 ≤ rest.length) (after : List Bool) :
    readFrame gap (l ++ v :: after) = some (.faultyFrameReceived ⟨gap, .codingBreak⟩) := by
  have sound := removeBits_insertBits (headerBits arbitration n ++ body)
  rw [sent] at sound
  obtain ⟨a, b, level, run, first, state, second, joined⟩ := removeBitsFrom_append sound
  rw [stands, Option.some.injEq, Prod.mk.injEq] at state
  obtain ⟨rfl, rfl⟩ := state
  have data : b ≠ [] := fun none => by
    rw [none] at second
    rcases removed_nil second with rfl | ⟨-, rfl⟩ <;> simp at more
  have few : a.length < 14 + body.length := by
    have total := congrArg List.length joined
    rw [List.length_append, List.length_append, headerBits_length] at total
    have := List.length_pos_iff.2 data
    omega
  have start : (l ++ v :: after).head? = some false := by
    cases l with
    | nil => cases stands
    | cons x l => exact head_append (by simpa using head_of_removed sound)
  by_cases within : a.length < 14
  · exact readFrame_of_break start (readSpan_break first stands within after)
  · have header : a.take 14 = headerBits arbitration n := by
      have taken := congrArg (List.take 14) joined
      rw [List.take_left' (headerBits_length arbitration n), List.take_append_of_le_length (by omega)] at taken
      exact taken.symm
    have split : headerBits arbitration n ++ a.drop 14 = a := by rw [← header, List.take_append_drop]
    obtain ⟨level₁, run₁, l₁, read, state₁, sound₁⟩ :=
      readSpan_header (arbitration := arbitration) (n := n) (bits := a.drop 14) (by rw [split]; exact first) stands (v :: after)
    have short : n ≤ 16 := by
      by_contra long
      rw [if_neg long] at length
      omega
    rw [if_pos short] at length
    rw [readFrame_of_header start fits read, if_neg (by omega), readBody, (headerBits_reads arbitration fits).1,
      readSpan_break sound₁ state₁ (by rw [List.length_drop]; omega)]

/-- A fifth equal bit in place of the inserted bit behind the check (R33, R39, assumption 10). -/
theorem readFrame_break_behind {gap : Nat} {arbitration : Byte} {n : Nat} {body l : List Bool} {v : Bool} (fits : n ≤ 16)
    (length : body.length = 8 * n + 16) (sent : insertBits (headerBits arbitration n ++ body) = l ++ [!v])
    (stands : lineState true 0 l = some (v, 4))
    (checked : bitsValue (body.drop (8 * n)) = (checkOfBits (byteBits arbitration ++ lengthBits n ++ body.take (8 * n))).toNat) (rest : List Bool) :
    readFrame gap (l ++ v :: rest) = some (.faultyFrameReceived ⟨gap, .codingBreak⟩) := by
  have sound := removeBits_insertBits (headerBits arbitration n ++ body)
  rw [sent] at sound
  obtain ⟨a, b, level, run, first, state, second, joined⟩ := removeBitsFrom_append sound
  rw [stands, Option.some.injEq, Prod.mk.injEq] at state
  obtain ⟨rfl, rfl⟩ := state
  have nothing : b = [] := by
    cases v <;> simpa [removeBitsFrom] using second.symm
  rw [nothing, List.append_nil] at joined
  rw [← joined] at first
  obtain ⟨level₁, run₁, l₁, read, state₁, sound₁⟩ := readSpan_header first stands (v :: rest)
  obtain ⟨level₂, run₂, l₂, state₂, sound₂, body_read⟩ :=
    readBody_of_enough (gap := gap) (arbitration := arbitration) fits length sound₁ state₁ (v :: rest)
  rw [readFrame_of_header (head_append (head_of_removed first)) (by omega) read, if_neg (by omega), body_read, if_pos checked,
    readSpanEnd_of_break sound₂ state₂]

end Sys2Proof.Machine
end

section
/-! PROOFS. The judgement of a span, and frames read bit by bit behind the gap ahead of them (R33 to R40, R54). -/

namespace Sys2Proof.Machine

open Sys2Proof

/-! ## The judgement of a span (R39) -/

theorem judgeSpan_of_break {seen : List Bool} (h : removeBits seen = none) : judgeSpan seen = some .codingBreak := by
  simp only [judgeSpan, h]

theorem judgeSpan_of_removed {seen bits : List Bool} (h : removeBits seen = some bits) :
    judgeSpan seen
      = if 16 < bitsValue ((bits.drop 9).take 5) then some .lengthFault
        else if bits.length = 30 + 8 * bitsValue ((bits.drop 9).take 5)
            ∧ bitsValue (bits.drop (bits.length - 16)) = (checkOfBits ((bits.drop 1).take (bits.length - 17))).toNat then none
        else some .checkFault := by
  simp only [judgeSpan, h]

theorem judgeSpan_break {l : List Bool} {v : Bool} (stands : lineState true 0 l = some (v, 4)) (after : List Bool) :
    judgeSpan (l ++ v :: after) = some .codingBreak := judgeSpan_of_break (removeBitsFrom_break stands after)

theorem judgeSpan_length {arbitration : Byte} {n : Nat} (long : 17 ≤ n) (fits : n ≤ 31) (after : List Bool) :
    judgeSpan (insertBits (headerBits arbitration n ++ after)) = some .lengthFault := by
  have value : bitsValue (((headerBits arbitration n ++ after).drop 9).take 5) = n := bitsValue_lengthBits fits
  rw [judgeSpan_of_removed (removeBits_insertBits _), value, if_pos (by omega)]

/-- A span with a length field of 0 to 16, by its check (R39, R54). -/
theorem judgeSpan_check (arbitration : Byte) (payload : List Byte) (check : Word) (fits : payload.length ≤ 16) :
    judgeSpan (insertBits (headerBits arbitration payload.length ++ (payload.flatMap byteBits ++ wordBits check)))
      = if check = checkOfBits (checkedBits arbitration payload) then none else some .checkFault := by
  have value : bitsValue (((headerBits arbitration payload.length ++ (payload.flatMap byteBits ++ wordBits check)).drop 9).take 5) = payload.length :=
    bitsValue_lengthBits (by omega)
  have word : (wordBits check).length = 16 := rfl
  have checked : (checkedBits arbitration payload).length = 13 + 8 * payload.length := by
    have payloadBits := flatMap_byteBits_length payload
    simp only [checkedBits, List.length_append, byteBits_length, payloadBits]
    rfl
  have whole : headerBits arbitration payload.length ++ (payload.flatMap byteBits ++ wordBits check)
      = false :: (checkedBits arbitration payload ++ wordBits check) := by
    simp only [headerBits, checkedBits, List.cons_append, List.append_assoc]
  have length : (headerBits arbitration payload.length ++ (payload.flatMap byteBits ++ wordBits check)).length = 30 + 8 * payload.length := by
    rw [whole, List.length_cons, List.length_append, checked, word]
    omega
  have last : (headerBits arbitration payload.length ++ (payload.flatMap byteBits ++ wordBits check)).drop (30 + 8 * payload.length - 16)
      = wordBits check := by
    rw [whole, ← List.cons_append]
    exact List.drop_left' (by rw [List.length_cons, checked]; omega)
  have first : ((headerBits arbitration payload.length ++ (payload.flatMap byteBits ++ wordBits check)).drop 1).take (30 + 8 * payload.length - 17)
      = checkedBits arbitration payload := by
    rw [whole]
    exact List.take_left' (by rw [checked]; omega)
  rw [judgeSpan_of_removed (removeBits_insertBits _), value, if_neg (by omega), length, last, first, bitsValue_wordBits]
  simp only [true_and, BitVec.toNat_inj]

/-! ## Behind the recessive bit times ahead of a frame (R35) -/

theorem firstStart_gap {awaits : Bool} {gap : Nat} (enough : awaits = true → 11 ≤ gap) (frame : List Bool) :
    firstStart awaits 0 (List.replicate gap true ++ false :: frame) = some (gap, false :: frame) := by
  have counted (k run : Nat) (enough : awaits = true → 11 ≤ run + k) :
      firstStart awaits run (List.replicate k true ++ false :: frame) = some (run + k, false :: frame) := by
    induction k generalizing run with
    | zero =>
      rw [List.replicate_zero, List.nil_append, firstStart, if_neg (by decide), if_neg, Nat.add_zero]
      intro short
      obtain ⟨awaiting, unseen⟩ := Bool.and_eq_true_iff.1 short
      exact absurd (of_decide_eq_true unseen) (Nat.not_lt.2 (enough awaiting))
    | succ k ih =>
      rw [List.replicate_succ, List.cons_append, firstStart, if_pos rfl, ih (run + 1) (fun h => by have := enough h; omega)]
      rw [Nat.add_right_comm, Nat.add_assoc]
  have := counted gap 0 (by simpa using enough)
  rwa [Nat.zero_add] at this

/-- What is read before the gap has been seen is passed over (R35). -/
theorem firstStart_awaits {before : List Bool} {run : Nat} (ends : before.getLast? = some false)
    (none : ¬ List.replicate 11 true <:+: List.replicate run true ++ before) (rest : List Bool) :
    firstStart true run (before ++ rest) = firstStart true 0 rest := by
  induction before generalizing run with
  | nil => cases ends
  | cons b before ih =>
    cases b with
    | true =>
      have next : before.getLast? = some false := by
        cases before with
        | nil => cases ends
        | cons c before => simpa using ends
      rw [List.cons_append, firstStart, if_pos rfl]
      have counted : List.replicate (run + 1) true ++ before = List.replicate run true ++ true :: before := by
        rw [List.replicate_succ', List.append_assoc, List.singleton_append]
      exact ih next fun found => none (counted ▸ found)
    | false =>
      have short : run < idleGapBits := by
        by_contra long
        have long : 11 ≤ run := Nat.not_lt.1 long
        refine none (List.IsInfix.trans ?_ (List.infix_append' [] (List.replicate run true) (false :: before)))
        exact ⟨List.replicate (run - 11) true, [], by rw [List.append_nil, List.replicate_append_replicate]; congr 1; omega⟩
      rw [List.cons_append, firstStart, if_neg (by decide), Bool.true_and, if_pos (decide_eq_true short)]
      cases before with
      | nil => rfl
      | cons c before =>
        refine ih (by simpa using ends) fun found => none (found.trans ?_)
        exact ⟨List.replicate run true ++ [false], [], by simp⟩

/-! ## A frame as sent, and what differs from it -/

/-- Payload and check behind the header. -/
def bodyBits (payload : List Byte) (check : Word) : List Bool := payload.flatMap byteBits ++ wordBits check

theorem bodyBits_parts (payload : List Byte) (check : Word) :
    (bodyBits payload check).length = 8 * payload.length + 16 ∧ (bodyBits payload check).drop (8 * payload.length) = wordBits check
      ∧ (bodyBits payload check).take (8 * payload.length) = payload.flatMap byteBits := by
  have length := flatMap_byteBits_length payload
  refine ⟨?_, List.drop_left' length, List.take_left' length⟩
  rw [bodyBits, List.length_append, length]
  rfl

theorem checkedBits_header (arbitration : Byte) (payload : List Byte) (check : Word) :
    false :: (checkedBits arbitration payload ++ wordBits check) = headerBits arbitration payload.length ++ bodyBits payload check := by
  simp only [headerBits, checkedBits, bodyBits, List.cons_append, List.append_assoc]

theorem spanBits_header (arbitration : Byte) (payload : List Byte) :
    spanBits arbitration payload
      = headerBits arbitration payload.length ++ bodyBits payload (checkOfBits (checkedBits arbitration payload)) :=
  checkedBits_header ..

/-- A frame by the check that it carries (R39, R54). -/
theorem readFrame_check {gap : Nat} {arbitration : Byte} {payload : List Byte} (check : Word) (fits : payload.length ≤ 16) (m : List Bool) :
    readFrame gap (insertBits (headerBits arbitration payload.length ++ bodyBits payload check) ++ m)
      = if check = checkOfBits (checkedBits arbitration payload) then readDelimiter gap (commandRead gap arbitration (payload.flatMap byteBits)) m
        else some (.faultyFrameReceived ⟨gap, .checkFault⟩) := by
  obtain ⟨length, last, first⟩ := bodyBits_parts payload check
  rw [readFrame_sent fits length m, last, first, bitsValue_wordBits]
  change (if check.toNat = (checkOfBits (checkedBits arbitration payload)).toNat then _ else _) = _
  by_cases same : check = checkOfBits (checkedBits arbitration payload)
  · rw [if_pos same, if_pos (congrArg BitVec.toNat same)]
  · rw [if_neg same, if_neg fun h => same (BitVec.toNat_inj.1 h)]

theorem commandRead_sent (gap : Nat) (cls : FrameClass) (sender : StationField) (payload : List Byte) :
    commandRead gap (arbitrationField cls sender) (payload.flatMap byteBits) = frameCommand cls ⟨gap, sender⟩ payload := by
  obtain ⟨readClass, readSender⟩ := arbitrationField_reads cls sender
  rw [commandRead, readClass, readSender, bytesOfBits_byteBits]

/-- A sound span and what follows it (R34, R40). -/
theorem readFrame_span (gap : Nat) (cls : FrameClass) (sender : StationField) {payload : List Byte} (fits : payload.length ≤ 16) (m : List Bool) :
    readFrame gap (insertBits (spanBits (arbitrationField cls sender) payload) ++ m)
      = readDelimiter gap (frameCommand cls ⟨gap, sender⟩ payload) m := by
  rw [spanBits_header, readFrame_check _ fits, if_pos rfl, commandRead_sent]

theorem readFrame_frameBits (gap : Nat) (cls : FrameClass) (sender : StationField) {payload : List Byte} (fits : payload.length ≤ 16) :
    readFrame gap (frameBits cls sender payload) = some (frameCommand cls ⟨gap, sender⟩ payload) := readFrame_span gap cls sender fits _

theorem frameBits_start (cls : FrameClass) (sender : StationField) (payload : List Byte) :
    ∃ frame, frameBits cls sender payload = false :: frame := by
  have start := head_append (m := List.replicate 10 true)
    (head_of_removed (removeBits_insertBits (spanBits (arbitrationField cls sender) payload)))
  obtain ⟨frame, h⟩ := List.head?_eq_some_iff.1 start
  exact ⟨frame, h⟩

/-- The frame behind the gap ahead of it (R35). -/
theorem readLine_frame {awaits : Bool} {gap : Nat} (enough : awaits = true → 11 ≤ gap) (cls : FrameClass) (sender : StationField)
    {payload : List Byte} (fits : payload.length ≤ 16) :
    readLine awaits (List.replicate gap true ++ frameBits cls sender payload) = some (frameCommand cls ⟨gap, sender⟩ payload) := by
  obtain ⟨frame, h⟩ := frameBits_start cls sender payload
  have read := readFrame_frameBits gap cls sender fits
  rw [h] at read ⊢
  simp only [readLine, firstStart_gap enough, read]

theorem readLine_awaits {before rest : List Bool} (ends : before = [] ∨ before.getLast? = some false)
    (none : ¬ List.replicate 11 true <:+: before) : readLine true (before ++ rest) = readLine true rest := by
  rcases ends with rfl | ends
  · rfl
  · rw [readLine, readLine, firstStart_awaits (run := 0) ends none]

theorem readBehindMark_release (marked : Nat) {gap : Nat} (released : 1 ≤ gap) (frame : List Bool) :
    readBehindMark (List.replicate marked false ++ (List.replicate gap true ++ frame)) = readLine false (List.replicate gap true ++ frame) := by
  obtain ⟨gap, rfl⟩ := Nat.exists_eq_add_of_le' released
  have marks : (List.replicate marked false ++ (List.replicate (gap + 1) true ++ frame)).dropWhile (!·) = List.replicate (gap + 1) true ++ frame := by
    rw [List.dropWhile_append_of_pos (by simp), List.replicate_succ, List.cons_append, List.dropWhile_cons_of_neg (by decide)]
  rw [readBehindMark, marks]

/-- A sender that sees what it drives comes to its successful end (R42). -/
theorem attemptEnd_frameBits (cls : FrameClass) (sender : StationField) (payload : List Byte) :
    attemptEnd (arbitrationField cls sender) payload (frameBits cls sender payload) = .successful := by
  have frame : frameBits cls sender payload = comparedBits (arbitrationField cls sender) payload ++ List.replicate 9 true := by
    rw [frameBits, comparedBits, List.append_assoc]
    rfl
  rw [frame, attemptEnd_of_same (.inl (List.prefix_append ..)), List.drop_left]
  rfl

/-- Four equal bits within a sent span stand as a run of four. -/
theorem lineState_of_sent {bits l rest : List Bool} {v : Bool} (sent : insertBits bits = l ++ List.replicate 4 v ++ rest) :
    lineState true 0 (l ++ List.replicate 4 v) = some (v, 4) := by
  have sound := removeBits_insertBits bits
  rw [sent] at sound
  obtain ⟨-, -, level, run, -, stands, -⟩ := removeBitsFrom_append sound
  rw [stands, lineState_four (by omega) stands]

/-- A fifth equal bit in place of the inserted one behind the check (R33, assumption 10). -/
theorem codingBreak_behind {gap : Nat} {cls : FrameClass} {sender : StationField} {payload : List Byte} {before : List Bool} {level : Bool}
    (fits : payload.length ≤ 16)
    (sent : insertBits (spanBits (arbitrationField cls sender) payload) = before ++ (List.replicate 4 level ++ [!level])) (rest : List Bool) :
    readFrame gap (before ++ (List.replicate 5 level ++ rest)) = some (.faultyFrameReceived ⟨gap, .codingBreak⟩)
      ∧ judgeSpan (before ++ List.replicate 5 level) = some .codingBreak := by
  rw [← List.append_assoc] at sent
  have stands := lineState_of_sent sent
  have five (rest : List Bool) : before ++ (List.replicate 5 level ++ rest) = before ++ List.replicate 4 level ++ level :: rest := by
    rw [List.replicate_succ', List.append_assoc, List.append_assoc]
    rfl
  rw [spanBits_header] at sent
  obtain ⟨length, last, first⟩ := bodyBits_parts payload (checkOfBits (checkedBits (arbitrationField cls sender) payload))
  refine ⟨?_, ?_⟩
  · rw [five]
    exact readFrame_break_behind fits length sent stands (by rw [last, first, bitsValue_wordBits, checkedBits]) rest
  · have marked := five []
    rw [List.append_nil] at marked
    rw [marked]
    exact judgeSpan_break stands []

/-- Settles O60: insertion, the judgement of spans, and what is read of each. -/
theorem sentFramesAreJudgedSound : Obligations.SentFramesAreJudgedSound := by
  refine ⟨removeBits_insertBits, fun gap arbitration n body sent after k level fits length hsent low high four => ?_,
    fun gap arbitration n after long fits => ⟨readFrame_length long fits after, judgeSpan_length long fits after⟩,
    fun gap arbitration payload check after fits other => ?_, fun cls sender payload gap fits => ⟨?_,
        readLine_frame (awaits := false) (by simp) cls sender fits,
      fun before ends none enough => ?_, fun marked released => ?_, attemptEnd_frameBits cls sender payload, fun rest => ⟨fun before level sent =>
        codingBreak_behind fits sent rest, ?_, ?_, ?_⟩⟩⟩
  · rw [headerBits_append] at hsent
    have split : sent = sent.take (k - 4) ++ List.replicate 4 level ++ sent.drop k := by
      have taken := List.take_add (l := sent) (i := k - 4) (j := 4)
      rw [Nat.sub_add_cancel low, four] at taken
      rw [← taken, List.take_append_drop]
    have taken : sent.take k = sent.take (k - 4) ++ List.replicate 4 level := by
      rw [← four, ← List.take_add, Nat.sub_add_cancel low]
    have stands := lineState_of_sent (hsent.symm.trans split)
    rw [taken]
    exact ⟨readFrame_break fits length (hsent.symm.trans split) stands (by rw [List.length_drop]; omega) after, judgeSpan_break stands after⟩
  · rw [checkedBits_header, readFrame_check check fits, if_neg other]
    exact ⟨rfl, (judgeSpan_check arbitration payload check fits).trans (if_neg other)⟩
  · rw [spanBits_header]
    exact (judgeSpan_check _ payload _ fits).trans (if_pos rfl)
  · rw [readLine_awaits ends none]
    exact readLine_frame (fun _ => enough) cls sender fits
  · rw [readBehindMark_release marked released]
    exact readLine_frame (awaits := false) (by simp) cls sender fits
  · exact readFrame_span gap cls sender fits _
  · exact readFrame_span gap cls sender fits _
  · exact readFrame_span gap cls sender fits _

end Sys2Proof.Machine
end
